-- ==== Sys2Proof/Word.lean ====
section
/-! DEFINITION. The word and byte types of the block, and the two records an operation's operands come in: the
command block of six words (30_encoding.md R74) and the slot descriptor's four constants (R71). -/

namespace Sys2Proof

/-- A command, operand or result word (R74, R76). -/
abbrev Word := BitVec 32

/-- A byte of a payload or a buffer (20_memory.md R40). -/
abbrev Byte := BitVec 8

/-- A 29-bit CAN identifier, bit 28 most significant (R11, R60). -/
abbrev Ident := BitVec 29

/-- An 18-bit Parameter Group Number (R62). -/
abbrev Pgn := BitVec 18

/-- A command block: six 32-bit words presented at once (R74). -/
structure Command where
  w0 : Word
  w1 : Word
  w2 : Word
  w3 : Word
  w4 : Word
  w5 : Word
deriving DecidableEq, Repr

/-- The four constants of a slot descriptor, as binary32 bit patterns: W2, W3, W4, W5 (R71). -/
structure SlotDesc where
  scale : Word
  offset : Word
  lower : Word
  upper : Word
deriving DecidableEq, Repr

end Sys2Proof
end

