-- ==== Sys2Proof/Syntax.lean ====
section
/-! DEFINITION. The operations of the block, one constructor per row of spec/opcode_table.json, with the operand
fields the row gives it at their own widths (30_encoding.md R80). Operand bits the table marks as ignored are no field. -/

namespace Sys2Proof

/-- One operation with its operands. The last five constructors are the table's wire-format rows (R80): no command
block is theirs, and each stands for the operation that consumes an item of that format (DESIGN CHOICE, log entry 10). -/
inductive Instr where
  /-- BLK.RESET (R251). -/
  | blkReset
  /-- ID.NEW: W1 = raw (R100). -/
  | idNew (raw : Word)
  /-- ID.PRIO: W1[28:0] = id (R101, R123). -/
  | idPrio (id : Ident)
  /-- ID.DP (R102). -/
  | idDp (id : Ident)
  /-- ID.PF (R103). -/
  | idPf (id : Ident)
  /-- ID.PS (R104). -/
  | idPs (id : Ident)
  /-- ID.PGN (R105). -/
  | idPgn (id : Ident)
  /-- ID.DA (R106). -/
  | idDa (id : Ident)
  /-- ID.GE (R107). -/
  | idGe (id : Ident)
  /-- ID.SA (R108). -/
  | idSa (id : Ident)
  /-- ID.BCAST (R109). -/
  | idBcast (id : Ident)
  /-- BLD.PGN: W1[17:0] = pgn (R110). -/
  | bldPgn (pgn : Pgn)
  /-- BLD.PRIO: W1[7:0] = p (R111). -/
  | bldPrio (p : Byte)
  /-- BLD.SA: W1[7:0] = sa (R112). -/
  | bldSa (sa : Byte)
  /-- BLD.DA: W1[7:0] = da (R113). -/
  | bldDa (da : Byte)
  /-- BLD.BUILD (R114). -/
  | bldBuild
  /-- PGN.TOLE: W1[17:0] = pgn (R120). -/
  | pgnToLe (pgn : Pgn)
  /-- PGN.FROMLE: W1[7:0], W1[15:8], W1[23:16] = the three wire bytes (R121). -/
  | pgnFromLe (b0 b1 b2 : Byte)
  /-- SLOT.DEC.U8: W1[7:0] = raw, W2..W5 = descriptor (R147). -/
  | slotDecU8 (raw : BitVec 8) (d : SlotDesc)
  /-- SLOT.DEC.U16 (R147). -/
  | slotDecU16 (raw : BitVec 16) (d : SlotDesc)
  /-- SLOT.DEC.U32 (R147). -/
  | slotDecU32 (raw : BitVec 32) (d : SlotDesc)
  /-- SLOT.DEC.I8 (R147). -/
  | slotDecI8 (raw : BitVec 8) (d : SlotDesc)
  /-- SLOT.DEC.I16 (R147). -/
  | slotDecI16 (raw : BitVec 16) (d : SlotDesc)
  /-- SLOT.DEC.I32 (R147). -/
  | slotDecI32 (raw : BitVec 32) (d : SlotDesc)
  /-- SLOT.ENC.U8: MOD[7] = some, W1 = value as f32 bits, W2..W5 = descriptor (R148, R77). -/
  | slotEncU8 (value : Option Word) (d : SlotDesc)
  /-- SLOT.ENC.U16 (R148). -/
  | slotEncU16 (value : Option Word) (d : SlotDesc)
  /-- SLOT.ENC.U32 (R148). -/
  | slotEncU32 (value : Option Word) (d : SlotDesc)
  /-- SLOT.ENC.I8 (R148). -/
  | slotEncI8 (value : Option Word) (d : SlotDesc)
  /-- SLOT.ENC.I16 (R148). -/
  | slotEncI16 (value : Option Word) (d : SlotDesc)
  /-- SLOT.ENC.I32 (R148). -/
  | slotEncI32 (value : Option Word) (d : SlotDesc)
  /-- FLD.GET.W1: MOD[7:4] = LEN, W1 = offset k, W2, W3 = payload (R153). -/
  | fldGetW1 (len : BitVec 4) (k pw0 pw1 : Word)
  /-- FLD.GET.W2 (R153). -/
  | fldGetW2 (len : BitVec 4) (k pw0 pw1 : Word)
  /-- FLD.GET.W4 (R153). -/
  | fldGetW4 (len : BitVec 4) (k pw0 pw1 : Word)
  /-- FLD.PUT.W1: as FLD.GET, and W4[7:0] = raw (R154). -/
  | fldPutW1 (len : BitVec 4) (k pw0 pw1 : Word) (raw : BitVec 8)
  /-- FLD.PUT.W2: W4[15:0] = raw (R154). -/
  | fldPutW2 (len : BitVec 4) (k pw0 pw1 : Word) (raw : BitVec 16)
  /-- FLD.PUT.W4: W4 = raw (R154). -/
  | fldPutW4 (len : BitVec 4) (k pw0 pw1 : Word) (raw : BitVec 32)
  /-- TXB.WR: W1 = address, W2[7:0] = byte (R171). -/
  | txbWr (a : Word) (v : Byte)
  /-- TXS.OPEN: W1[7:0] = sa, W2[17:0] = pgn, W3 = length (R172). -/
  | txsOpen (sa : Byte) (pgn : Pgn) (len : Word)
  /-- TXS.COUNT (R173). -/
  | txsCount
  /-- TXS.NEXT (R174). -/
  | txsNext
  /-- TXS.CLOSE (R178). -/
  | txsClose
  /-- RXS.FEED: MOD[3:0] = LEN, W1[28:0] = id, W2, W3 = payload (R191, R79). -/
  | rxsFeed (len : BitVec 4) (id : Ident) (pw0 pw1 : Word)
  /-- RXS.LEN (R195). -/
  | rxsLen
  /-- RXS.TOTAL (R196). -/
  | rxsTotal
  /-- RXS.PGN (R197). -/
  | rxsPgn
  /-- RXS.SA (R198). -/
  | rxsSa
  /-- RXB.RD: W1 = address (R199). -/
  | rxbRd (a : Word)
  /-- RXS.CLOSE (R200). -/
  | rxsClose
  /-- CANID: an identifier by its fields, bits 28:26, 25, 24, 23:16, 15:8, 7:0 (R60). -/
  | canId (prio : BitVec 3) (edp dp : BitVec 1) (pf ps sa : Byte)
  /-- CANID.PDU2: an identifier whose PDU Format is 240 to 255 (R61). -/
  | canIdPdu2 (prio : BitVec 3) (edp dp : BitVec 1) (pf ps sa : Byte)
  /-- PGN.WIRE: byte0, byte1, and bits 1:0 of byte2, whose other bits are zero (R63). -/
  | pgnWire (b0 b1 : Byte) (hi : BitVec 2)
  /-- TP.CM.BAM: identifier, declared length, packet count and carried PGN of a BAM frame (R65). -/
  | tpCmBam (id : Ident) (total : BitVec 16) (count : Byte) (pgn : Pgn)
  /-- TP.DT: identifier, sequence number and d0..d6 (d0 in bits 7..0) of a DataTransfer frame (R66). -/
  | tpDt (id : Ident) (sq : Byte) (data : BitVec 56)
deriving DecidableEq, Repr

end Sys2Proof
end

