-- ==== Sys2Proof/Config.lean ====
section
/-! DEFINITION. The constants the source fixes (00_scope.md R4), the parameters of a block instance that the source
leaves open (R5), and the free values: opaque constants without a body, of which nothing can be proved. -/

namespace Sys2Proof

/-- PDU2_MIN: PDU Format values from here to 255 select PDU2 (R4, R61). -/
def Config.pdu2Min : Nat := 240

/-- ADDR_BROADCAST: the broadcast destination address (R4). -/
def Config.addrBroadcast : Byte := 0xFF

/-- PRIO_DEFAULT: the builder's default priority (R4). -/
def Config.prioDefault : BitVec 3 := 6

/-- PRIO_MAX: a priority above it clamps to it (R4). -/
def Config.prioMax : Nat := 7

/-- FRAME_MAX: the most payload bytes of one frame (R4). -/
def Config.frameMax : Nat := 8

/-- TP_MAX: the most payload bytes of a transfer, and the size of each buffer (R4, R40). -/
def Config.tpMax : Nat := 1785

/-- TP_CHUNK: payload bytes per DataTransfer frame (R4). -/
def Config.tpChunk : Nat := 7

/-- TP_BAM: control byte of a BAM frame (R4). -/
def Config.tpBam : Byte := 0x20

/-- TP_PAD: padding of a short final chunk, and byte 4 of a BAM frame (R4). -/
def Config.tpPad : Byte := 0xFF

/-- PGN_TP_CM: Transport ConnectionManagement (R4). -/
def Config.pgnTpCm : Pgn := 0x0EC00

/-- PGN_TP_DT: Transport DataTransfer (R4). -/
def Config.pgnTpDt : Pgn := 0x0EB00

/-- The parameters of a block instance with the spec's defaults (R5, 92_eei_decisions.md D21, D27). -/
structure Config.Params where
  /-- TP_PRIORITY: priority of the identifiers the sender emits. -/
  tpPriority : BitVec 3 := 6
  /-- TP_DA: destination address of the identifiers the sender emits. -/
  tpDa : Byte := 0xFF
  /-- RX_FILL: the byte an accepted BAM frame fills RXBUF with. -/
  rxFill : Byte := 0x00
deriving DecidableEq, Repr

/-- DESIGN CHOICE (log entry 4): the unspecified value of the TXBUF byte at an address (second argument) that no
TXB.WR has written since the latest reset (first argument: how many resets have been taken). It is fixed until the
byte is written (R22, R253, 93_implementation_defined.md U6). Safe: nothing constrains it. -/
opaque Config.freeTxByte : Nat → Nat → Byte

/-- DESIGN CHOICE (log entry 12): the bit pattern of a NaN result, which the spec does not state. Safe: free, and no
operation produces a NaN, because R146 keeps NaN out of every computation (R141). -/
opaque Config.freeNanBits : Word

end Sys2Proof
end

