-- ==== Sys2Proof/WellFormed.lean ====
section
/-! DEFINITION. Which operations are well formed. The operand fields of an operation have the widths the encoding gives
them, so every command operation is; only the wire-format rows restrict a field (R61, R65, R66). -/

namespace Sys2Proof

/-- The identifier's PF, DP and EDP bits are those of TP.CM: the table's mask 0x03FF0000 over the identifier (R65). -/
def isTpCmId (id : Ident) : Bool := id &&& 0x03FF0000#29 == 0x00EC0000#29

/-- The identifier's PF, DP and EDP bits are those of TP.DT (R66). -/
def isTpDtId (id : Ident) : Bool := id &&& 0x03FF0000#29 == 0x00EB0000#29

/-- Well-formedness: CANID.PDU2 has a PDU2 format (R61); TP.CM.BAM and TP.DT have their PGN in the identifier (R65,
R66); nothing is asked of any other operation. -/
def Instr.wellFormed : Instr → Bool
  | .canIdPdu2 _ _ _ pf _ _ => Config.pdu2Min ≤ pf.toNat
  | .tpCmBam id _ _ _ => isTpCmId id
  | .tpDt id _ _ => isTpDtId id
  | .blkReset | .idNew _ | .idPrio _ | .idDp _ | .idPf _ | .idPs _ | .idPgn _ | .idDa _ | .idGe _ | .idSa _
  | .idBcast _ | .bldPgn _ | .bldPrio _ | .bldSa _ | .bldDa _ | .bldBuild | .pgnToLe _ | .pgnFromLe _ _ _
  | .slotDecU8 _ _ | .slotDecU16 _ _ | .slotDecU32 _ _ | .slotDecI8 _ _ | .slotDecI16 _ _ | .slotDecI32 _ _
  | .slotEncU8 _ _ | .slotEncU16 _ _ | .slotEncU32 _ _ | .slotEncI8 _ _ | .slotEncI16 _ _ | .slotEncI32 _ _
  | .fldGetW1 _ _ _ _ | .fldGetW2 _ _ _ _ | .fldGetW4 _ _ _ _
  | .fldPutW1 _ _ _ _ _ | .fldPutW2 _ _ _ _ _ | .fldPutW4 _ _ _ _ _
  | .txbWr _ _ | .txsOpen _ _ _ | .txsCount | .txsNext | .txsClose
  | .rxsFeed _ _ _ _ | .rxsLen | .rxsTotal | .rxsPgn | .rxsSa | .rxbRd _ | .rxsClose
  | .canId _ _ _ _ _ _ | .pgnWire _ _ _ => true

end Sys2Proof
end

