-- ==== Sys2Proof/Decode.lean ====
section
/-! DEFINITION. From command blocks to operations and back (30_encoding.md Part B), the rows of spec/opcode_table.json,
and how the table's words are read. The decoder is total: a block that is no operation is illegal, by name (R81). -/

namespace Sys2Proof

/-- Why a command block is illegal (R81). Every reason ends in the same status, ILLEGAL_COMMAND. -/
inductive Reject where
  /-- W0[15:0] is not zero. -/
  | reservedWord
  /-- OP is not one of the 34 values of R80. -/
  | unassignedOp
  /-- A MOD bit that R80 assigns to no sub-field of the operation is not zero. -/
  | reservedMod
  /-- T is 3 or 7 in an operation with a T sub-field; for FLD.GET and FLD.PUT, T[1:0] is 3 (R153). -/
  | illegalType
deriving DecidableEq, Repr

/-- What the decoder answers. -/
inductive Decoded where
  | ok (i : Instr)
  | illegal (why : Reject)
deriving DecidableEq, Repr

/-! ### The header word W0 (R74) -/

/-- OP: W0[31:24]. -/
def Command.op (c : Command) : Byte := c.w0.extractLsb' 24 8

/-- MOD: W0[23:16]. -/
def Command.modifier (c : Command) : Byte := c.w0.extractLsb' 16 8

/-- W0[15:0], reserved. -/
def Command.low (c : Command) : BitVec 16 := c.w0.extractLsb' 0 16

/-- The descriptor operand: W2 = scale, W3 = offset, W4 = lower, W5 = upper (R71). -/
def Command.desc (c : Command) : SlotDesc := ⟨c.w2, c.w3, c.w4, c.w5⟩

/-- The header word with opcode and modifier, its reserved half zero. -/
def headerWord (op modifier : Byte) : Word := op ++ modifier ++ 0#16

/-! ### Decoding (R80, R81) -/

/-- An operation whose MOD has no sub-field: every MOD bit must be zero. -/
def decodePlain (modifier : Byte) (i : Instr) : Decoded :=
  if modifier = 0 then .ok i else .illegal .reservedMod

/-- SLOT.DEC: MOD[2:0] = T, MOD[7:3] = 0 (R80, R70). -/
def decodeSlotDec (modifier : Byte) (c : Command) : Decoded :=
  if modifier.extractLsb' 3 5 ≠ 0 then .illegal .reservedMod
  else match (modifier.extractLsb' 0 3).toNat with
    | 0 => .ok (.slotDecU8 (c.w1.extractLsb' 0 8) c.desc)
    | 1 => .ok (.slotDecU16 (c.w1.extractLsb' 0 16) c.desc)
    | 2 => .ok (.slotDecU32 c.w1 c.desc)
    | 4 => .ok (.slotDecI8 (c.w1.extractLsb' 0 8) c.desc)
    | 5 => .ok (.slotDecI16 (c.w1.extractLsb' 0 16) c.desc)
    | 6 => .ok (.slotDecI32 c.w1 c.desc)
    | _ => .illegal .illegalType

/-- The optional value operand of SLOT.ENC: MOD[7] = 1 for Some, the value in W1 (R77). -/
def decodeSome (modifier : Byte) (c : Command) : Option Word :=
  if modifier.extractLsb' 7 1 = 1 then some c.w1 else none

/-- SLOT.ENC: MOD[2:0] = T, MOD[7] = some, MOD[6:3] = 0 (R80, R70). -/
def decodeSlotEnc (modifier : Byte) (c : Command) : Decoded :=
  if modifier.extractLsb' 3 4 ≠ 0 then .illegal .reservedMod
  else match (modifier.extractLsb' 0 3).toNat with
    | 0 => .ok (.slotEncU8 (decodeSome modifier c) c.desc)
    | 1 => .ok (.slotEncU16 (decodeSome modifier c) c.desc)
    | 2 => .ok (.slotEncU32 (decodeSome modifier c) c.desc)
    | 4 => .ok (.slotEncI8 (decodeSome modifier c) c.desc)
    | 5 => .ok (.slotEncI16 (decodeSome modifier c) c.desc)
    | 6 => .ok (.slotEncI32 (decodeSome modifier c) c.desc)
    | _ => .illegal .illegalType

/-- FLD.GET: MOD[1:0] = width code, MOD[2] accepted and ignored, MOD[3] = 0, MOD[7:4] = LEN (R80, R153). -/
def decodeFldGet (modifier : Byte) (c : Command) : Decoded :=
  if modifier.extractLsb' 3 1 ≠ 0 then .illegal .reservedMod
  else match (modifier.extractLsb' 0 2).toNat with
    | 0 => .ok (.fldGetW1 (modifier.extractLsb' 4 4) c.w1 c.w2 c.w3)
    | 1 => .ok (.fldGetW2 (modifier.extractLsb' 4 4) c.w1 c.w2 c.w3)
    | 2 => .ok (.fldGetW4 (modifier.extractLsb' 4 4) c.w1 c.w2 c.w3)
    | _ => .illegal .illegalType

/-- FLD.PUT: MOD as FLD.GET, W4 = raw in bits 8W-1..0 (R80, R154). -/
def decodeFldPut (modifier : Byte) (c : Command) : Decoded :=
  if modifier.extractLsb' 3 1 ≠ 0 then .illegal .reservedMod
  else match (modifier.extractLsb' 0 2).toNat with
    | 0 => .ok (.fldPutW1 (modifier.extractLsb' 4 4) c.w1 c.w2 c.w3 (c.w4.extractLsb' 0 8))
    | 1 => .ok (.fldPutW2 (modifier.extractLsb' 4 4) c.w1 c.w2 c.w3 (c.w4.extractLsb' 0 16))
    | 2 => .ok (.fldPutW4 (modifier.extractLsb' 4 4) c.w1 c.w2 c.w3 c.w4)
    | _ => .illegal .illegalType

/-- RXS.FEED: MOD[3:0] = LEN, MOD[7:4] = 0 (R80, R79). -/
def decodeRxsFeed (modifier : Byte) (c : Command) : Decoded :=
  if modifier.extractLsb' 4 4 ≠ 0 then .illegal .reservedMod
  else .ok (.rxsFeed (modifier.extractLsb' 0 4) (c.w1.extractLsb' 0 29) c.w2 c.w3)

/-- The opcode map of R80. -/
def decodeOp (op modifier : Byte) (c : Command) : Decoded :=
  match op.toNat with
  | 0x01 => decodePlain modifier .blkReset
  | 0x10 => decodePlain modifier (.idNew c.w1)
  | 0x11 => decodePlain modifier (.idPrio (c.w1.extractLsb' 0 29))
  | 0x12 => decodePlain modifier (.idDp (c.w1.extractLsb' 0 29))
  | 0x13 => decodePlain modifier (.idPf (c.w1.extractLsb' 0 29))
  | 0x14 => decodePlain modifier (.idPs (c.w1.extractLsb' 0 29))
  | 0x15 => decodePlain modifier (.idPgn (c.w1.extractLsb' 0 29))
  | 0x16 => decodePlain modifier (.idDa (c.w1.extractLsb' 0 29))
  | 0x17 => decodePlain modifier (.idGe (c.w1.extractLsb' 0 29))
  | 0x18 => decodePlain modifier (.idSa (c.w1.extractLsb' 0 29))
  | 0x19 => decodePlain modifier (.idBcast (c.w1.extractLsb' 0 29))
  | 0x20 => decodePlain modifier (.bldPgn (c.w1.extractLsb' 0 18))
  | 0x21 => decodePlain modifier (.bldPrio (c.w1.extractLsb' 0 8))
  | 0x22 => decodePlain modifier (.bldSa (c.w1.extractLsb' 0 8))
  | 0x23 => decodePlain modifier (.bldDa (c.w1.extractLsb' 0 8))
  | 0x24 => decodePlain modifier .bldBuild
  | 0x30 => decodePlain modifier (.pgnToLe (c.w1.extractLsb' 0 18))
  | 0x31 => decodePlain modifier
      (.pgnFromLe (c.w1.extractLsb' 0 8) (c.w1.extractLsb' 8 8) (c.w1.extractLsb' 16 8))
  | 0x40 => decodeSlotDec modifier c
  | 0x41 => decodeSlotEnc modifier c
  | 0x48 => decodeFldGet modifier c
  | 0x49 => decodeFldPut modifier c
  | 0x50 => decodePlain modifier (.txbWr c.w1 (c.w2.extractLsb' 0 8))
  | 0x51 => decodePlain modifier (.txsOpen (c.w1.extractLsb' 0 8) (c.w2.extractLsb' 0 18) c.w3)
  | 0x52 => decodePlain modifier .txsCount
  | 0x53 => decodePlain modifier .txsNext
  | 0x54 => decodePlain modifier .txsClose
  | 0x60 => decodeRxsFeed modifier c
  | 0x61 => decodePlain modifier .rxsLen
  | 0x62 => decodePlain modifier .rxsTotal
  | 0x63 => decodePlain modifier .rxsPgn
  | 0x64 => decodePlain modifier .rxsSa
  | 0x65 => decodePlain modifier (.rxbRd c.w1)
  | 0x66 => decodePlain modifier .rxsClose
  | _ => .illegal .unassignedOp

/-- The operation a command block is, or why it is illegal (R80, R81). -/
def decode (c : Command) : Decoded :=
  if c.low ≠ 0 then .illegal .reservedWord else decodeOp c.op c.modifier c

/-! ### Encoding (R80), with every ignored operand bit and unused operand word zero -/

/-- A command block with header `op`, `modifier` and operand words W1 to W5. -/
def block (op modifier : Byte) (w1 w2 w3 w4 w5 : Word) : Command :=
  ⟨headerWord op modifier, w1, w2, w3, w4, w5⟩

/-- A SLOT.DEC block of raw type code `t` (R70). -/
def encodeSlotDec (t : BitVec 3) (raw : Word) (d : SlotDesc) : Command :=
  block 0x40 (0#5 ++ t) raw d.scale d.offset d.lower d.upper

/-- A SLOT.ENC block of raw type code `t`: MOD[7] says whether there is a value (R77). -/
def encodeSlotEnc (t : BitVec 3) (value : Option Word) (d : SlotDesc) : Command :=
  match value with
  | some v => block 0x41 (1#1 ++ 0#4 ++ t) v d.scale d.offset d.lower d.upper
  | none => block 0x41 (0#1 ++ 0#4 ++ t) 0 d.scale d.offset d.lower d.upper

/-- A FLD.GET or FLD.PUT block of width code `t` (R80). -/
def encodeFld (op : Byte) (t : BitVec 2) (len : BitVec 4) (k pw0 pw1 raw : Word) : Command :=
  block op (len ++ 0#2 ++ t) k pw0 pw1 raw 0

/-- An RXS.FEED block (R79). -/
def encodeFeed (len : BitVec 4) (id : Ident) (pw0 pw1 : Word) : Command :=
  block 0x60 (0#4 ++ len) (id.setWidth 32) pw0 pw1 0 0

/-- An identifier from its fields, priority uppermost (R60). -/
def packIdent (prio : BitVec 3) (edp dp : BitVec 1) (pf ps sa : Byte) : Ident :=
  prio ++ edp ++ dp ++ pf ++ ps ++ sa

/-- Payload word 0 of a BAM frame: control byte, length low, length high, packet count (R65, R75). -/
def bamWord0 (total : BitVec 16) (count : Byte) : Word := count ++ total ++ Config.tpBam

/-- Payload word 1 of a BAM frame: 0xFF, then the carried PGN, its top two bits in byte 7 (R65, R75). -/
def bamWord1 (pgn : Pgn) : Word := 0#6 ++ pgn ++ Config.tpPad

/-- Payload word 0 of a DataTransfer frame: sequence number, d0, d1, d2 (R66, R75). -/
def dtWord0 (sq : Byte) (data : BitVec 56) : Word := data.extractLsb' 0 24 ++ sq

/-- Payload word 1 of a DataTransfer frame: d3 to d6 (R66, R75). -/
def dtWord1 (data : BitVec 56) : Word := data.extractLsb' 24 32

/-- The command operation that each constructor is an instance of: itself, but for a wire-format row the operation that
consumes an item of that format (DESIGN CHOICE, log entry 10): ID.NEW (R100), ID.PF (R103), PGN.FROMLE (R121) and
RXS.FEED of a full frame (R192, R193). -/
def Instr.core (i : Instr) : Instr :=
  match i with
  | .canId prio edp dp pf ps sa => .idNew ((packIdent prio edp dp pf ps sa).setWidth 32)
  | .canIdPdu2 prio edp dp pf ps sa => .idPf (packIdent prio edp dp pf ps sa)
  | .pgnWire b0 b1 hi => .pgnFromLe b0 b1 (0#6 ++ hi)
  | .tpCmBam id total count pgn => .rxsFeed 8 id (bamWord0 total count) (bamWord1 pgn)
  | .tpDt id sq data => .rxsFeed 8 id (dtWord0 sq data) (dtWord1 data)
  | i => i

/-- The command block with which the host issues an operation (R80). The encoding of a wire-format row is that of the
operation it stands for (log entry 10). -/
def encode : Instr → Command
  | .blkReset => block 0x01 0 0 0 0 0 0
  | .idNew raw => block 0x10 0 raw 0 0 0 0
  | .idPrio id => block 0x11 0 (id.setWidth 32) 0 0 0 0
  | .idDp id => block 0x12 0 (id.setWidth 32) 0 0 0 0
  | .idPf id => block 0x13 0 (id.setWidth 32) 0 0 0 0
  | .idPs id => block 0x14 0 (id.setWidth 32) 0 0 0 0
  | .idPgn id => block 0x15 0 (id.setWidth 32) 0 0 0 0
  | .idDa id => block 0x16 0 (id.setWidth 32) 0 0 0 0
  | .idGe id => block 0x17 0 (id.setWidth 32) 0 0 0 0
  | .idSa id => block 0x18 0 (id.setWidth 32) 0 0 0 0
  | .idBcast id => block 0x19 0 (id.setWidth 32) 0 0 0 0
  | .bldPgn pgn => block 0x20 0 (pgn.setWidth 32) 0 0 0 0
  | .bldPrio p => block 0x21 0 (p.setWidth 32) 0 0 0 0
  | .bldSa sa => block 0x22 0 (sa.setWidth 32) 0 0 0 0
  | .bldDa da => block 0x23 0 (da.setWidth 32) 0 0 0 0
  | .bldBuild => block 0x24 0 0 0 0 0 0
  | .pgnToLe pgn => block 0x30 0 (pgn.setWidth 32) 0 0 0 0
  | .pgnFromLe b0 b1 b2 => block 0x31 0 (0#8 ++ b2 ++ b1 ++ b0) 0 0 0 0
  | .slotDecU8 raw d => encodeSlotDec 0 (raw.setWidth 32) d
  | .slotDecU16 raw d => encodeSlotDec 1 (raw.setWidth 32) d
  | .slotDecU32 raw d => encodeSlotDec 2 raw d
  | .slotDecI8 raw d => encodeSlotDec 4 (raw.setWidth 32) d
  | .slotDecI16 raw d => encodeSlotDec 5 (raw.setWidth 32) d
  | .slotDecI32 raw d => encodeSlotDec 6 raw d
  | .slotEncU8 value d => encodeSlotEnc 0 value d
  | .slotEncU16 value d => encodeSlotEnc 1 value d
  | .slotEncU32 value d => encodeSlotEnc 2 value d
  | .slotEncI8 value d => encodeSlotEnc 4 value d
  | .slotEncI16 value d => encodeSlotEnc 5 value d
  | .slotEncI32 value d => encodeSlotEnc 6 value d
  | .fldGetW1 len k pw0 pw1 => encodeFld 0x48 0 len k pw0 pw1 0
  | .fldGetW2 len k pw0 pw1 => encodeFld 0x48 1 len k pw0 pw1 0
  | .fldGetW4 len k pw0 pw1 => encodeFld 0x48 2 len k pw0 pw1 0
  | .fldPutW1 len k pw0 pw1 raw => encodeFld 0x49 0 len k pw0 pw1 (raw.setWidth 32)
  | .fldPutW2 len k pw0 pw1 raw => encodeFld 0x49 1 len k pw0 pw1 (raw.setWidth 32)
  | .fldPutW4 len k pw0 pw1 raw => encodeFld 0x49 2 len k pw0 pw1 raw
  | .txbWr a v => block 0x50 0 a (v.setWidth 32) 0 0 0
  | .txsOpen sa pgn len => block 0x51 0 (sa.setWidth 32) (pgn.setWidth 32) len 0 0
  | .txsCount => block 0x52 0 0 0 0 0 0
  | .txsNext => block 0x53 0 0 0 0 0 0
  | .txsClose => block 0x54 0 0 0 0 0 0
  | .rxsFeed len id pw0 pw1 => encodeFeed len id pw0 pw1
  | .rxsLen => block 0x61 0 0 0 0 0 0
  | .rxsTotal => block 0x62 0 0 0 0 0 0
  | .rxsPgn => block 0x63 0 0 0 0 0 0
  | .rxsSa => block 0x64 0 0 0 0 0 0
  | .rxbRd a => block 0x65 0 a 0 0 0 0
  | .rxsClose => block 0x66 0 0 0 0 0 0
  | .canId prio edp dp pf ps sa => block 0x10 0 ((packIdent prio edp dp pf ps sa).setWidth 32) 0 0 0 0
  | .canIdPdu2 prio edp dp pf ps sa => block 0x13 0 ((packIdent prio edp dp pf ps sa).setWidth 32) 0 0 0 0
  | .pgnWire b0 b1 hi => block 0x31 0 (0#8 ++ (0#6 ++ hi : Byte) ++ b1 ++ b0) 0 0 0 0
  | .tpCmBam id total count pgn => encodeFeed 8 id (bamWord0 total count) (bamWord1 pgn)
  | .tpDt id sq data => encodeFeed 8 id (dtWord0 sq data) (dtWord1 data)

/-! ### The rows of spec/opcode_table.json -/

/-- An operation row of the table: its mnemonic, and match and mask over W0. -/
structure OpRow where
  mnemonic : String
  pattern : Word
  mask : Word
deriving DecidableEq, Repr

/-- Rows 1 to 12 of spec/opcode_table.json. -/
def opTable1 : List OpRow :=
  [⟨"BLK.RESET", 0x01000000#32, 0xFFFFFFFF#32⟩,
   ⟨"ID.NEW", 0x10000000#32, 0xFFFFFFFF#32⟩,
   ⟨"ID.PRIO", 0x11000000#32, 0xFFFFFFFF#32⟩,
   ⟨"ID.DP", 0x12000000#32, 0xFFFFFFFF#32⟩,
   ⟨"ID.PF", 0x13000000#32, 0xFFFFFFFF#32⟩,
   ⟨"ID.PS", 0x14000000#32, 0xFFFFFFFF#32⟩,
   ⟨"ID.PGN", 0x15000000#32, 0xFFFFFFFF#32⟩,
   ⟨"ID.DA", 0x16000000#32, 0xFFFFFFFF#32⟩,
   ⟨"ID.GE", 0x17000000#32, 0xFFFFFFFF#32⟩,
   ⟨"ID.SA", 0x18000000#32, 0xFFFFFFFF#32⟩,
   ⟨"ID.BCAST", 0x19000000#32, 0xFFFFFFFF#32⟩,
   ⟨"BLD.PGN", 0x20000000#32, 0xFFFFFFFF#32⟩]

/-- Rows 13 to 24 of spec/opcode_table.json. -/
def opTable2 : List OpRow :=
  [⟨"BLD.PRIO", 0x21000000#32, 0xFFFFFFFF#32⟩,
   ⟨"BLD.SA", 0x22000000#32, 0xFFFFFFFF#32⟩,
   ⟨"BLD.DA", 0x23000000#32, 0xFFFFFFFF#32⟩,
   ⟨"BLD.BUILD", 0x24000000#32, 0xFFFFFFFF#32⟩,
   ⟨"PGN.TOLE", 0x30000000#32, 0xFFFFFFFF#32⟩,
   ⟨"PGN.FROMLE", 0x31000000#32, 0xFFFFFFFF#32⟩,
   ⟨"SLOT.DEC.U8", 0x40000000#32, 0xFFFFFFFF#32⟩,
   ⟨"SLOT.DEC.U16", 0x40010000#32, 0xFFFFFFFF#32⟩,
   ⟨"SLOT.DEC.U32", 0x40020000#32, 0xFFFFFFFF#32⟩,
   ⟨"SLOT.DEC.I8", 0x40040000#32, 0xFFFFFFFF#32⟩,
   ⟨"SLOT.DEC.I16", 0x40050000#32, 0xFFFFFFFF#32⟩,
   ⟨"SLOT.DEC.I32", 0x40060000#32, 0xFFFFFFFF#32⟩]

/-- Rows 25 to 36 of spec/opcode_table.json. -/
def opTable3 : List OpRow :=
  [⟨"SLOT.ENC.U8", 0x41000000#32, 0xFF7FFFFF#32⟩,
   ⟨"SLOT.ENC.U16", 0x41010000#32, 0xFF7FFFFF#32⟩,
   ⟨"SLOT.ENC.U32", 0x41020000#32, 0xFF7FFFFF#32⟩,
   ⟨"SLOT.ENC.I8", 0x41040000#32, 0xFF7FFFFF#32⟩,
   ⟨"SLOT.ENC.I16", 0x41050000#32, 0xFF7FFFFF#32⟩,
   ⟨"SLOT.ENC.I32", 0x41060000#32, 0xFF7FFFFF#32⟩,
   ⟨"FLD.GET.W1", 0x48000000#32, 0xFF0BFFFF#32⟩,
   ⟨"FLD.GET.W2", 0x48010000#32, 0xFF0BFFFF#32⟩,
   ⟨"FLD.GET.W4", 0x48020000#32, 0xFF0BFFFF#32⟩,
   ⟨"FLD.PUT.W1", 0x49000000#32, 0xFF0BFFFF#32⟩,
   ⟨"FLD.PUT.W2", 0x49010000#32, 0xFF0BFFFF#32⟩,
   ⟨"FLD.PUT.W4", 0x49020000#32, 0xFF0BFFFF#32⟩]

/-- Rows 37 to 48 of spec/opcode_table.json. -/
def opTable4 : List OpRow :=
  [⟨"TXB.WR", 0x50000000#32, 0xFFFFFFFF#32⟩,
   ⟨"TXS.OPEN", 0x51000000#32, 0xFFFFFFFF#32⟩,
   ⟨"TXS.COUNT", 0x52000000#32, 0xFFFFFFFF#32⟩,
   ⟨"TXS.NEXT", 0x53000000#32, 0xFFFFFFFF#32⟩,
   ⟨"TXS.CLOSE", 0x54000000#32, 0xFFFFFFFF#32⟩,
   ⟨"RXS.FEED", 0x60000000#32, 0xFFF0FFFF#32⟩,
   ⟨"RXS.LEN", 0x61000000#32, 0xFFFFFFFF#32⟩,
   ⟨"RXS.TOTAL", 0x62000000#32, 0xFFFFFFFF#32⟩,
   ⟨"RXS.PGN", 0x63000000#32, 0xFFFFFFFF#32⟩,
   ⟨"RXS.SA", 0x64000000#32, 0xFFFFFFFF#32⟩,
   ⟨"RXB.RD", 0x65000000#32, 0xFFFFFFFF#32⟩,
   ⟨"RXS.CLOSE", 0x66000000#32, 0xFFFFFFFF#32⟩]

/-- The 48 operation rows of spec/opcode_table.json. -/
def opTable : List OpRow := opTable1 ++ opTable2 ++ opTable3 ++ opTable4

/-- The command block is an instance of the row: W0 under the row's mask is the row's pattern. -/
def OpRow.matches (r : OpRow) (c : Command) : Bool := c.w0 &&& r.mask == r.pattern

/-- The mnemonic of spec/opcode_table.json that each constructor stands for. -/
def Instr.mnemonic : Instr → String
  | .blkReset => "BLK.RESET"
  | .idNew _ => "ID.NEW"
  | .idPrio _ => "ID.PRIO"
  | .idDp _ => "ID.DP"
  | .idPf _ => "ID.PF"
  | .idPs _ => "ID.PS"
  | .idPgn _ => "ID.PGN"
  | .idDa _ => "ID.DA"
  | .idGe _ => "ID.GE"
  | .idSa _ => "ID.SA"
  | .idBcast _ => "ID.BCAST"
  | .bldPgn _ => "BLD.PGN"
  | .bldPrio _ => "BLD.PRIO"
  | .bldSa _ => "BLD.SA"
  | .bldDa _ => "BLD.DA"
  | .bldBuild => "BLD.BUILD"
  | .pgnToLe _ => "PGN.TOLE"
  | .pgnFromLe _ _ _ => "PGN.FROMLE"
  | .slotDecU8 _ _ => "SLOT.DEC.U8"
  | .slotDecU16 _ _ => "SLOT.DEC.U16"
  | .slotDecU32 _ _ => "SLOT.DEC.U32"
  | .slotDecI8 _ _ => "SLOT.DEC.I8"
  | .slotDecI16 _ _ => "SLOT.DEC.I16"
  | .slotDecI32 _ _ => "SLOT.DEC.I32"
  | .slotEncU8 _ _ => "SLOT.ENC.U8"
  | .slotEncU16 _ _ => "SLOT.ENC.U16"
  | .slotEncU32 _ _ => "SLOT.ENC.U32"
  | .slotEncI8 _ _ => "SLOT.ENC.I8"
  | .slotEncI16 _ _ => "SLOT.ENC.I16"
  | .slotEncI32 _ _ => "SLOT.ENC.I32"
  | .fldGetW1 _ _ _ _ => "FLD.GET.W1"
  | .fldGetW2 _ _ _ _ => "FLD.GET.W2"
  | .fldGetW4 _ _ _ _ => "FLD.GET.W4"
  | .fldPutW1 _ _ _ _ _ => "FLD.PUT.W1"
  | .fldPutW2 _ _ _ _ _ => "FLD.PUT.W2"
  | .fldPutW4 _ _ _ _ _ => "FLD.PUT.W4"
  | .txbWr _ _ => "TXB.WR"
  | .txsOpen _ _ _ => "TXS.OPEN"
  | .txsCount => "TXS.COUNT"
  | .txsNext => "TXS.NEXT"
  | .txsClose => "TXS.CLOSE"
  | .rxsFeed _ _ _ _ => "RXS.FEED"
  | .rxsLen => "RXS.LEN"
  | .rxsTotal => "RXS.TOTAL"
  | .rxsPgn => "RXS.PGN"
  | .rxsSa => "RXS.SA"
  | .rxbRd _ => "RXB.RD"
  | .rxsClose => "RXS.CLOSE"
  | .canId _ _ _ _ _ _ => "CANID"
  | .canIdPdu2 _ _ _ _ _ _ => "CANID.PDU2"
  | .pgnWire _ _ _ => "PGN.WIRE"
  | .tpCmBam _ _ _ _ => "TP.CM.BAM"
  | .tpDt _ _ _ => "TP.DT"

/-! ### Words numbered as the table numbers them -/

/-- The command block whose bits are `w`, W0 lowest: bit 0 of `w` is bit 0 of W0, bit 32 is bit 0 of W1, and so on. -/
def Command.ofNat (w : Nat) : Command :=
  ⟨BitVec.ofNat 32 w, BitVec.ofNat 32 (w >>> 32), BitVec.ofNat 32 (w >>> 64), BitVec.ofNat 32 (w >>> 96),
    BitVec.ofNat 32 (w >>> 128), BitVec.ofNat 32 (w >>> 160)⟩

/-- A word of the table's identifier rows, read by the most particular row it matches: TP.CM.BAM, TP.DT, CANID.PDU2,
CANID (R60, R61, R65, R66). Payload fields, which the rows give no bits, are zero. -/
def decodeIdentRow (id : Ident) : Instr :=
  if isTpCmId id then .tpCmBam id 0 0 0
  else if isTpDtId id then .tpDt id 0 0
  else if Config.pdu2Min ≤ (id.extractLsb' 16 8).toNat then
    .canIdPdu2 (id.extractLsb' 26 3) (id.extractLsb' 25 1) (id.extractLsb' 24 1) (id.extractLsb' 16 8)
      (id.extractLsb' 8 8) (id.extractLsb' 0 8)
  else
    .canId (id.extractLsb' 26 3) (id.extractLsb' 25 1) (id.extractLsb' 24 1) (id.extractLsb' 16 8)
      (id.extractLsb' 8 8) (id.extractLsb' 0 8)

/-- A word of the table's PGN.WIRE row: byte0 in bits 23..16, byte1 in 15..8, byte2 in 7..0, of which bits 7..2 are
ignored on decode (R63). -/
def decodePgnRow (w : Nat) : Instr :=
  .pgnWire (BitVec.ofNat 8 (w >>> 16)) (BitVec.ofNat 8 (w >>> 8)) (BitVec.ofNat 2 w)

/-- Whether a table word of `nbits` bits is read as an identifier: it has 29 bits, or it has 32 bits and bits 31..24 are
zero, so that it is no command block's header, since OP 0x00 is unassigned (R81). DESIGN CHOICE, log entry 11. -/
def isIdentRow (nbits w : Nat) : Bool := nbits == 29 || (nbits == 32 && w % 2 ^ 32 < 2 ^ 24)

/-- The operation the decoder reads from a word of spec/opcode_table.json, its bits numbered as the table numbers them:
24 bits are the PGN.WIRE row, identifiers are as `isIdentRow` says, every other word is a command block. -/
def decodeTableWord (nbits w : Nat) : Option Instr :=
  if nbits = 24 then some (decodePgnRow w)
  else if isIdentRow nbits w then some (decodeIdentRow (BitVec.ofNat 29 w))
  else match decode (Command.ofNat (w % 2 ^ nbits)) with
    | .ok i => some i
    | .illegal _ => none

/-- The command block with which the host presents a word of the table: for a wire-format row the block of the
operation that consumes it (log entries 10 and 11), for every other word the block the word is. -/
def tableCommand (nbits w : Nat) : Command :=
  if nbits = 24 then encode (decodePgnRow w)
  else if isIdentRow nbits w then encode (decodeIdentRow (BitVec.ofNat 29 w))
  else Command.ofNat (w % 2 ^ nbits)

end Sys2Proof
end

