-- ==== Sys2Proof/Machine/State.lean ====
section
/-! DEFINITION. The state of the block (10_state.md R10), what the host sends and gets (30_encoding.md R74, R76;
70_reset_and_hazards.md R265), and the state right after reset (R22). -/

namespace Sys2Proof.Machine

/-- The status codes of 60_exceptions.md R220, by name; their numbers are `Status.code`. -/
inductive Status where
  | ok
  | malformedInput
  | protocolViolation
  | illegalCommand
  | noSession
  | exhausted
  | busy
  | badAddress
  | lengthError
  | slotDomain
  | notTransport
deriving DecidableEq, Repr

/-- A response block: the status word S and the result words R0, R1, R2 (R76). -/
structure Response where
  s : Word
  r0 : Word
  r1 : Word
  r2 : Word
deriving DecidableEq, Repr

/-- TX.state: Idle = 0, ConnectionManagement = 1, DataTransfer = 2; the code 3 never occurs (R14). -/
inductive TxState where
  | idle
  | connectionManagement
  | dataTransfer
deriving DecidableEq, Repr

/-- RX.state: Idle = 0, DataTransfer = 1 (R15). -/
inductive RxState where
  | idle
  | dataTransfer
deriving DecidableEq, Repr

/-- The two address spaces (R40). -/
inductive Space where
  | txBuf
  | rxBuf
deriving DecidableEq, Repr

/-- What the host can do to the block (R265): issue one command block, or assert and release the reset input. -/
inductive Input where
  | command (c : Command)
  | hardReset
deriving DecidableEq, Repr

/-- Why the machine stops with a fault. The block itself never does: every command block in every state it can reach
gets a response (R230). -/
inductive Fault where
  /-- A read of a TXBUF address that is backed by no storage (R43). Raised by TXS.NEXT when TX.total is above 1785, which is
  no legal value of it (R14) and which no run reaches. Safe: the model stops where the spec gives no behaviour (log entry
  13). -/
  | noStorage (a : Nat)
deriving DecidableEq, Repr

/-- Why the machine gives an operation no meaning. -/
inductive Refusal where
  /-- Raised by an arm of `exec` for an operation without a meaning; no arm raises it. Safe. -/
  | notModelled (mnemonic : String)
deriving DecidableEq, Repr

/-- The state. The registers and buffers are those of R13, R14, R15, R17 and R18; the last four fields are the model's
own (INVENTORY.md, State). -/
structure State where
  /-- BLD.PGN (R13). -/
  bldPgn : Pgn
  /-- BLD.PRI (R13). -/
  bldPri : BitVec 3
  /-- BLD.SA (R13). -/
  bldSa : Byte
  /-- BLD.DA (R13). -/
  bldDa : Byte
  /-- TX.state (R14). -/
  txState : TxState
  /-- TX.sa (R14). -/
  txSa : Byte
  /-- TX.pgn (R14). -/
  txPgn : Pgn
  /-- TX.total (R14). -/
  txTotal : BitVec 11
  /-- TX.idx (R14). -/
  txIdx : BitVec 8
  /-- TXBUF: the bytes written since the latest reset, by address; an unlisted byte is unspecified (R17, R22). -/
  txBuf : List Host.Cell
  /-- RX.state (R15). -/
  rxState : RxState
  /-- RX.sa (R15). -/
  rxSa : Byte
  /-- RX.pgn (R15). -/
  rxPgn : Pgn
  /-- RX.total (R15). -/
  rxTotal : BitVec 11
  /-- RX.len (R15). -/
  rxLen : BitVec 11
  /-- RXBUF: the bytes that differ from RX_FILL, by address; an unlisted byte reads as RX_FILL (R18, R42). -/
  rxBuf : List Host.Cell
  /-- The parameters of this block instance, fixed for its life (R5, R23; DESIGN CHOICE, log entry 3). -/
  params : Config.Params
  /-- How many resets the block has taken: argument of the free value of a never-written TXBUF byte (log entry 4). -/
  txEpoch : Nat
  /-- What the host will still send, oldest first: the rest of the run (R265; DESIGN CHOICE, log entry 1). -/
  inputs : List Input
  /-- The response to the latest command; none before the first (R250; DESIGN CHOICE, log entry 2). -/
  response : Option Response
deriving DecidableEq, Repr

/-- The outcome of a step or of a meaning. -/
abbrev Result := Host.Outcome State Fault Refusal

/-- The machine right after reset (R22, R250): the builder at its defaults and both banks Idle. The session registers
are unspecified there, and zero here (DESIGN CHOICE, log entry 5; unsafe); nothing is listed in the buffers (log entries
4 and 6); the parameters have their defaults (R5); the host has sent nothing and no response is pending. -/
def State.reset : State where
  bldPgn := 0
  bldPri := 6
  bldSa := 0
  bldDa := 0
  txState := .idle
  txSa := 0
  txPgn := 0
  txTotal := 0
  txIdx := 0
  txBuf := []
  rxState := .idle
  rxSa := 0
  rxPgn := 0
  rxTotal := 0
  rxLen := 0
  rxBuf := []
  params := {}
  txEpoch := 0
  inputs := []
  response := none

end Sys2Proof.Machine
end

