-- ==== Sys2Proof/Machine/Flags.lean ====
section
/-! DEFINITION. The block has no flags (10_state.md R20). What takes their place is the status of an operation, which is
part of its response and is not retained: the status numbers (60_exceptions.md R220) and the status word S
(30_encoding.md R76). -/

namespace Sys2Proof.Machine

/-- The number of each status (R220). -/
def Status.code : Status → Byte
  | .ok => 0x00
  | .malformedInput => 0x01
  | .protocolViolation => 0x02
  | .illegalCommand => 0x03
  | .noSession => 0x04
  | .exhausted => 0x05
  | .busy => 0x06
  | .badAddress => 0x07
  | .lengthError => 0x08
  | .slotDomain => 0x09
  | .notTransport => 0x0A

/-- The status word S: STATUS in bits 7..0, RLEN in bits 11..8, zero above (R76). -/
def statusWord (st : Status) (rlen : BitVec 4) : Word := 0#20 ++ rlen ++ st.code

/-- The response of an operation that ended with status OK and returned no frame: RLEN is 0 (R76). -/
def okResponse (r0 r1 r2 : Word) : Response := ⟨statusWord .ok 0, r0, r1, r2⟩

/-- The response of TXS.NEXT: status OK and a frame of length 8, identifier in R0, payload in R1, R2 (R76, R78). -/
def frameResponse (id pw0 pw1 : Word) : Response := ⟨statusWord .ok 8, id, pw0, pw1⟩

/-- The response of an operation that did not end with OK: RLEN and all results are zero (R76, R226). -/
def errorResponse (st : Status) : Response := ⟨statusWord st 0, 0, 0, 0⟩

/-- STATUS of a response: S[7:0]. -/
def Response.status (r : Response) : Byte := r.s.extractLsb' 0 8

/-- RLEN of a response: S[11:8]. -/
def Response.rlen (r : Response) : BitVec 4 := r.s.extractLsb' 8 4

end Sys2Proof.Machine
end

