-- ==== Sys2Proof/Machine/Operands.lean ====
section
/-! DEFINITION. Operand and result forms: identifier fields (00_scope.md R7, 30_encoding.md R60 to R62), the builder's
packing (R114), the PGN wire form (R63), payload bytes in words (R75), lengths (R79), raw types (R70), optional and
tagged results (R77), and the payloads of the two transport frames (R65, R66). -/

namespace Sys2Proof.Machine

/-! ### Identifier fields -/

/-- `id_new`: the low 29 bits of a word (R7, R100, R123). -/
def idNew (raw : Word) : Ident := raw.extractLsb' 0 29

/-- Priority, bits 28..26 (R60). -/
def idPrio (id : Ident) : BitVec 3 := id.extractLsb' 26 3

/-- Data page, bit 24 (R102). -/
def idDp (id : Ident) : BitVec 1 := id.extractLsb' 24 1

/-- PDU Format, bits 23..16 (R7). -/
def idPf (id : Ident) : Byte := id.extractLsb' 16 8

/-- PDU Specific, bits 15..8 (R7). -/
def idPs (id : Ident) : Byte := id.extractLsb' 8 8

/-- Source address, bits 7..0 (R7). -/
def idSa (id : Ident) : Byte := id.extractLsb' 0 8

/-- PDU2 exactly when PF is at least 240 (R61). -/
def idIsPdu2 (id : Ident) : Bool := Config.pdu2Min ≤ (idPf id).toNat

/-- `pgn_raw`: bits 25..8 under PDU2, bits 25..16 above a zero byte under PDU1 (R105). -/
def idPgnRaw (id : Ident) : Pgn :=
  if idIsPdu2 id then id.extractLsb' 8 18 else id.extractLsb' 16 10 ++ 0#8

/-- Whether the frame is a broadcast: PDU2, or destination address 0xFF (R109). -/
def idIsBroadcast (id : Ident) : Bool := idIsPdu2 id || idPs id == Config.addrBroadcast

/-- `id_build`: priority, PGN, source address, and under PDU1 the destination ORed into bits 15..8 (R7, R114). -/
def idBuild (prio : BitVec 3) (pgn : Pgn) (sa da : Byte) : Ident :=
  let t : Ident := prio ++ pgn ++ sa
  if idIsPdu2 t then t else t ||| (da.setWidth 29 <<< 8)

/-- The builder's clamp of a priority (R111). -/
def clampPrio (p : Byte) : BitVec 3 := BitVec.ofNat 3 (min p.toNat Config.prioMax)

/-! ### PGN on the wire -/

/-- `pgn_to_le`: the three wire bytes of a PGN, first byte first (R63, R120). -/
def pgnToLe (p : Pgn) : List Byte := [p.extractLsb' 0 8, p.extractLsb' 8 8, (p.extractLsb' 16 2).setWidth 8]

/-- `pgn_from_le`: the PGN of three wire bytes, bits 7..2 of the last ignored (R121). -/
def pgnFromLe (b0 b1 b2 : Byte) : Pgn := b2.extractLsb' 0 2 ++ b1 ++ b0

/-! ### Little-endian bytes and payload words -/

/-- `le`: the little-endian value of a byte sequence (R44). -/
def leValue : List Byte → Nat
  | [] => 0
  | b :: bs => b.toNat + 256 * leValue bs

/-- Byte `j` of a word, bits 8j+7..8j. -/
def wordByte (w : Word) (j : Nat) : Byte := w.extractLsb' (8 * j) 8

/-- The eight payload positions in PW0 and PW1 (R75). -/
def payloadBytes (pw0 pw1 : Word) : List Byte :=
  [wordByte pw0 0, wordByte pw0 1, wordByte pw0 2, wordByte pw0 3,
   wordByte pw1 0, wordByte pw1 1, wordByte pw1 2, wordByte pw1 3]

/-- A word of four bytes, the first lowest. -/
def packWord (bs : List Byte) : Word := BitVec.ofNat 32 (leValue (bs.take 4))

/-- PW0 of a payload (R75). -/
def payWord0 (pay : List Byte) : Word := packWord pay

/-- PW1 of a payload (R75). -/
def payWord1 (pay : List Byte) : Word := packWord (pay.drop 4)

/-- The length of a frame operand: LEN clamped to 8 (R79). -/
def frameLen (len : BitVec 4) : Nat := min len.toNat Config.frameMax

/-! ### Raw types -/

/-- The six raw types of the Slot codec (R70). -/
inductive RawType where
  | u8
  | u16
  | u32
  | i8
  | i16
  | i32
deriving DecidableEq, Repr

/-- The width in bits, 8W (R70). -/
def RawType.bits : RawType → Nat
  | .u8 | .i8 => 8
  | .u16 | .i16 => 16
  | .u32 | .i32 => 32

/-- Whether the raw integer is signed (R70). -/
def RawType.signed : RawType → Bool
  | .u8 | .u16 | .u32 => false
  | .i8 | .i16 | .i32 => true

/-- The least raw integer of the type (R70). -/
def RawType.lo (t : RawType) : Int := if t.signed then -(2 ^ (t.bits - 1) : Nat) else 0

/-- The greatest raw integer of the type (R70). -/
def RawType.hi (t : RawType) : Int := if t.signed then (2 ^ (t.bits - 1) : Nat) - 1 else (2 ^ t.bits : Nat) - 1

/-- The not-available pattern: all 8W bits set (R145). -/
def RawType.sentinel (t : RawType) : Nat := 2 ^ t.bits - 1

/-- The raw integer that a bit pattern stands for (R155). -/
def RawType.value (t : RawType) (r : Nat) : Int :=
  if t.signed ∧ 2 ^ (t.bits - 1) ≤ r then (r : Int) - (2 ^ t.bits : Nat) else r

/-- The bit pattern of a raw integer, zero-extended to a word (R143, R148). -/
def RawType.pattern (t : RawType) (n : Int) : Word := BitVec.ofInt 32 (n % (2 ^ t.bits : Nat))

/-! ### Optional and tagged bytes in a result -/

/-- An optional byte: bit 8 for Some, the byte below, all zero for None (R77). -/
def optionByte : Option Byte → Word
  | some b => 0#23 ++ 1#1 ++ b
  | none => 0

/-- A tagged PDU format: bit 8 is 1 for PDU2, PF below (R77, R103). -/
def taggedPf (id : Ident) : Word := 0#23 ++ BitVec.ofBool (idIsPdu2 id) ++ idPf id

/-! ### Transport frames -/

/-- The number of DataTransfer frames of a transfer, `ceil(total / 7)` (R173). -/
def packetCount (total : BitVec 11) : Nat := (total.toNat + 6) / Config.tpChunk

/-- The payload of a BAM frame (R65, R175). -/
def bamPayload (total : BitVec 11) (pgn : Pgn) : List Byte :=
  [Config.tpBam, total.extractLsb' 0 8, (total.extractLsb' 8 3).setWidth 8, BitVec.ofNat 8 (packetCount total),
    Config.tpPad] ++ pgnToLe pgn

/-- The payload of a DataTransfer frame: sequence number, chunk, padding to eight bytes (R66, R176). -/
def dtPayload (sq : Byte) (chunk : List Byte) : List Byte :=
  sq :: chunk ++ List.replicate (Config.tpChunk - chunk.length) Config.tpPad

end Sys2Proof.Machine
end

