-- ==== Sys2Proof/Machine/Ops.lean ====
section
/-! DEFINITION. The named operations over buffers and registers: byte access to the two buffers (20_memory.md R40 to
R43), one update per register group (10_state.md R25), answering the host (30_encoding.md R76), ending an operation with
an error status (60_exceptions.md R226), and the two resets (70_reset_and_hazards.md R250, R251). -/

namespace Sys2Proof.Machine

/-! ### Buffers as lists of cells, addresses strictly rising -/

/-- The byte listed at an address, if one is. -/
def Memory.find : List Host.Cell → Nat → Option Byte
  | [], _ => none
  | (b, v) :: m, a => if a = b then some v else Memory.find m a

/-- List a byte at an address, in place of the one listed there, keeping the order. -/
def Memory.insert : List Host.Cell → Nat → Byte → List Host.Cell
  | [], a, v => [(a, v)]
  | (b, w) :: m, a, v =>
    if a < b then (a, v) :: (b, w) :: m
    else if a = b then (a, v) :: m
    else (b, w) :: Memory.insert m a v

/-- List nothing at an address. -/
def Memory.erase (m : List Host.Cell) (a : Nat) : List Host.Cell := m.filter (fun c => c.1 ≠ a)

/-- Write a byte where an unlisted address reads as `d`: writing what it reads as removes the entry. -/
def Memory.write (d : Option Byte) (m : List Host.Cell) (a : Nat) (v : Byte) : List Host.Cell :=
  if d = some v then Memory.erase m a else Memory.insert m a v

/-- The canonical form: addresses strictly rising and backed by storage (R40), no entry equal to what an unlisted
address reads as. -/
abbrev Memory.wf (d : Option Byte) (m : List Host.Cell) : Prop :=
  m.Pairwise (fun x y => x.1 < y.1) ∧ ∀ c ∈ m, c.1 < Config.tpMax ∧ d ≠ some c.2

/-- The cells of a buffer. -/
def State.cells (s : State) : Space → List Host.Cell
  | .txBuf => s.txBuf
  | .rxBuf => s.rxBuf

/-- What an unlisted address of a buffer reads as. TXBUF: no stated value, since the byte has not been written since the
latest reset (R22; log entry 4). RXBUF: RX_FILL, with which an accepted BAM frame fills the buffer (R42; log entry 6). -/
def State.unlisted (s : State) : Space → Option Byte
  | .txBuf => none
  | .rxBuf => some s.params.rxFill

/-- The stated value of a buffer byte, if it has one. -/
def State.readByte (s : State) (sp : Space) (a : Nat) : Option Byte :=
  match Memory.find (s.cells sp) a with
  | some v => some v
  | none => s.unlisted sp

/-- The value of a buffer byte: the stated one, else the free value of this byte since the latest reset (R253, U6). -/
def State.byteAt (s : State) (sp : Space) (a : Nat) : Byte :=
  (s.readByte sp a).getD (Config.freeTxByte s.txEpoch a)

/-- Whether a buffer address is backed by storage (R43). -/
def backed (a : Nat) : Bool := a < Config.tpMax

/-! ### Register updates, one per group that an operation writes (R25) -/

/-- Write all four builder registers. -/
def State.setBuilder (pgn : Pgn) (pri : BitVec 3) (sa da : Byte) (s : State) : State :=
  { s with bldPgn := pgn, bldPri := pri, bldSa := sa, bldDa := da }

/-- Write BLD.PRI. -/
def State.setBldPri (pri : BitVec 3) (s : State) : State := { s with bldPri := pri }

/-- Write BLD.SA. -/
def State.setBldSa (sa : Byte) (s : State) : State := { s with bldSa := sa }

/-- Write BLD.DA. -/
def State.setBldDa (da : Byte) (s : State) : State := { s with bldDa := da }

/-- Write one byte of TXBUF. -/
def State.writeTx (a : Nat) (v : Byte) (s : State) : State :=
  { s with txBuf := Memory.write (s.unlisted .txBuf) s.txBuf a v }

/-- Construct a sender session: TX.idx is not written (R172). -/
def State.openTx (sa : Byte) (pgn : Pgn) (total : BitVec 11) (s : State) : State :=
  { s with txSa := sa, txPgn := pgn, txTotal := total, txState := .connectionManagement }

/-- The BAM frame has been emitted: state DataTransfer, index 0 (R175). -/
def State.startTx (s : State) : State := { s with txState := .dataTransfer, txIdx := 0 }

/-- A DataTransfer frame has been emitted (R176). -/
def State.advanceTx (s : State) : State := { s with txIdx := s.txIdx + 1 }

/-- Discard the sender session (R178). -/
def State.closeTx (s : State) : State := { s with txState := .idle }

/-- Open a receiver session: the announced fields, length 0, and RX_FILL in every byte of RXBUF, that is, nothing listed
(R192). -/
def State.openRx (sa : Byte) (pgn : Pgn) (total : BitVec 11) (s : State) : State :=
  { s with rxSa := sa, rxPgn := pgn, rxTotal := total, rxLen := 0, rxBuf := [], rxState := .dataTransfer }

/-- Write one byte of RXBUF. -/
def State.writeRx (a : Nat) (v : Byte) (s : State) : State :=
  { s with rxBuf := Memory.write (s.unlisted .rxBuf) s.rxBuf a v }

/-- Assign RX.len (R193). -/
def State.setRxLen (len : BitVec 11) (s : State) : State := { s with rxLen := len }

/-- Discard the receiver session (R200). -/
def State.closeRx (s : State) : State := { s with rxState := .idle }

/-- Take what the host sent first off the port. -/
def State.dropInput (s : State) : State := { s with inputs := s.inputs.tail }

/-- Deliver a response block (R76). -/
def State.answer (r : Response) (s : State) : State := { s with response := some r }

/-- BLK.RESET's register writes (R251). The session registers and RXBUF are not written; TXBUF is unspecified again, so
nothing stays listed and its free values are new ones (DEDUCED, log entry 7). -/
def State.softReset (s : State) : State :=
  { s with bldPgn := 0, bldPri := Config.prioDefault, bldSa := 0, bldDa := 0, txState := .idle, rxState := .idle,
           txBuf := [], txEpoch := s.txEpoch + 1 }

/-- Hardware reset (R250): every piece of state as `State.reset` has it, no response pending, TXBUF unspecified again.
The instance's parameters and what the host will still send are not the block's state (DESIGN CHOICE, log entry 8). -/
def State.hardReset (s : State) : State :=
  { State.reset with params := s.params, txEpoch := s.txEpoch + 1, inputs := s.inputs }

/-! ### How an operation ends -/

/-- End with an error status: this is the block's whole exception mechanism. Nothing changes but the response, which
holds the status and zeros; nothing is saved, the mode cannot change, and control stays with the host (R226). There is
no operation that returns from an error (R227). -/
def raise (st : Status) (s : State) : Result := .next (s.answer (errorResponse st))

/-- End with status OK and results R0, R1, R2 in the state `s`. -/
def finish (r0 r1 r2 : Word) (s : State) : Result := .next (s.answer (okResponse r0 r1 r2))

/-- End with status OK and no result. -/
def done (s : State) : Result := finish 0 0 0 s

/-- End with status OK and one result word. -/
def give (r0 : Word) (s : State) : Result := finish r0 0 0 s

/-- End with status OK and a frame of length 8 (R78). -/
def giveFrame (id : Ident) (pay : List Byte) (s : State) : Result :=
  .next (s.answer (frameResponse (id.setWidth 32) (payWord0 pay) (payWord1 pay)))

end Sys2Proof.Machine
end

