-- ==== Sys2Proof/Machine/Block.lean ====
section
/-! DEFINITION. BLK.RESET (70_reset_and_hazards.md R251), and what the block does with a command block that is no
operation (30_encoding.md R81) and with the reset input (R250). -/

namespace Sys2Proof.Machine

/-- BLK.RESET (R251). -/
def execBlkReset (s : State) : Result := done s.softReset

/-- An illegal command block: status ILLEGAL_COMMAND and no effect (R81). -/
def takeIllegal (s : State) : Result := raise .illegalCommand s

/-- Assertion and release of the reset input: the block returns nothing (R250, R265). -/
def takeHardReset (s : State) : Result := .next s.hardReset

/-- The host has nothing to send: the block never acts without a command (R265; log entry 9). -/
def takeNothing (s : State) : Result := .next s

end Sys2Proof.Machine
end

