-- ==== Sys2Proof/Machine/Builder.lean ====
section
/-! DEFINITION. The builder operations (40_identifier.md R110 to R114). -/

namespace Sys2Proof.Machine

/-- BLD.PGN: the PGN, and the defaults of the other three registers (R110). -/
def execBldPgn (pgn : Pgn) (s : State) : Result := done (s.setBuilder pgn Config.prioDefault 0 0)

/-- BLD.PRIO: clamped, never an error (R111). -/
def execBldPrio (p : Byte) (s : State) : Result := done (s.setBldPri (clampPrio p))

/-- BLD.SA (R112). -/
def execBldSa (sa : Byte) (s : State) : Result := done (s.setBldSa sa)

/-- BLD.DA (R113). -/
def execBldDa (da : Byte) (s : State) : Result := done (s.setBldDa da)

/-- BLD.BUILD: the registers keep their values (R114). -/
def execBldBuild (s : State) : Result :=
  give ((idBuild s.bldPri s.bldPgn s.bldSa s.bldDa).setWidth 32) s

end Sys2Proof.Machine
end

