-- ==== Sys2Proof/Machine/Field.lean ====
section
/-! DEFINITION. The raw field operations over a payload operand (41_slot.md R153, R154). -/

namespace Sys2Proof.Machine

/-- FLD.GET of `w` bytes at offset `k`: the field must lie within the payload's length, compared as integers (R153). -/
def fldGet (w : Nat) (len : BitVec 4) (k pw0 pw1 : Word) (s : State) : Result :=
  if frameLen len < k.toNat + w then raise .malformedInput s
  else give (BitVec.ofNat 32 (leValue (((payloadBytes pw0 pw1).drop k.toNat).take w))) s

/-- The payload with the bytes `bs` at offset `k`, every other position as it was. -/
def putBytes (pay : List Byte) (k : Nat) (bs : List Byte) : List Byte :=
  pay.take k ++ bs ++ pay.drop (k + bs.length)

/-- The `w` low bytes of a raw pattern, lowest first. -/
def rawBytes (raw : Word) (w : Nat) : List Byte := (List.range w).map (wordByte raw)

/-- FLD.PUT of `w` bytes at offset `k`: all eight positions are returned (R154). -/
def fldPut (w : Nat) (len : BitVec 4) (k pw0 pw1 raw : Word) (s : State) : Result :=
  if frameLen len < k.toNat + w then raise .malformedInput s
  else
    let pay := putBytes (payloadBytes pw0 pw1) k.toNat (rawBytes raw w)
    finish 0 (payWord0 pay) (payWord1 pay) s

/-- FLD.GET.W1 (R153). -/
def execFldGetW1 (len : BitVec 4) (k pw0 pw1 : Word) (s : State) : Result := fldGet 1 len k pw0 pw1 s

/-- FLD.GET.W2 (R153). -/
def execFldGetW2 (len : BitVec 4) (k pw0 pw1 : Word) (s : State) : Result := fldGet 2 len k pw0 pw1 s

/-- FLD.GET.W4 (R153). -/
def execFldGetW4 (len : BitVec 4) (k pw0 pw1 : Word) (s : State) : Result := fldGet 4 len k pw0 pw1 s

/-- FLD.PUT.W1 (R154). -/
def execFldPutW1 (len : BitVec 4) (k pw0 pw1 : Word) (raw : BitVec 8) (s : State) : Result :=
  fldPut 1 len k pw0 pw1 (raw.setWidth 32) s

/-- FLD.PUT.W2 (R154). -/
def execFldPutW2 (len : BitVec 4) (k pw0 pw1 : Word) (raw : BitVec 16) (s : State) : Result :=
  fldPut 2 len k pw0 pw1 (raw.setWidth 32) s

/-- FLD.PUT.W4 (R154). -/
def execFldPutW4 (len : BitVec 4) (k pw0 pw1 : Word) (raw : BitVec 32) (s : State) : Result :=
  fldPut 4 len k pw0 pw1 raw s

end Sys2Proof.Machine
end

