-- ==== Sys2Proof/Machine/Identifier.lean ====
section
/-! DEFINITION. The identifier decode operations (40_identifier.md R100 to R109), and the two identifier rows of the
wire formats (30_encoding.md R60, R61). -/

namespace Sys2Proof.Machine

/-- ID.NEW (R100). -/
def execIdNew (raw : Word) (s : State) : Result := give ((idNew raw).setWidth 32) s

/-- ID.PRIO (R101). -/
def execIdPrio (id : Ident) (s : State) : Result := give ((idPrio id).setWidth 32) s

/-- ID.DP (R102). -/
def execIdDp (id : Ident) (s : State) : Result := give ((idDp id).setWidth 32) s

/-- ID.PF (R103). -/
def execIdPf (id : Ident) (s : State) : Result := give (taggedPf id) s

/-- ID.PS (R104). -/
def execIdPs (id : Ident) (s : State) : Result := give ((idPs id).setWidth 32) s

/-- ID.PGN (R105). -/
def execIdPgn (id : Ident) (s : State) : Result := give ((idPgnRaw id).setWidth 32) s

/-- ID.DA: Some exactly under PDU1 (R106). -/
def execIdDa (id : Ident) (s : State) : Result :=
  give (optionByte (if idIsPdu2 id then none else some (idPs id))) s

/-- ID.GE: Some exactly under PDU2 (R107). -/
def execIdGe (id : Ident) (s : State) : Result :=
  give (optionByte (if idIsPdu2 id then some (idPs id) else none)) s

/-- ID.SA (R108). -/
def execIdSa (id : Ident) (s : State) : Result := give ((idSa id).setWidth 32) s

/-- ID.BCAST (R109). -/
def execIdBcast (id : Ident) (s : State) : Result :=
  give ((BitVec.ofBool (idIsBroadcast id)).setWidth 32) s

/-- CANID: the identifier of these fields, taken by ID.NEW (R60, R100; log entry 10). -/
def execCanId (prio : BitVec 3) (edp dp : BitVec 1) (pf ps sa : Byte) (s : State) : Result :=
  give ((prio ++ edp ++ dp ++ pf ++ ps ++ sa : Ident).setWidth 32) s

/-- CANID.PDU2: the identifier of these fields, discriminated by ID.PF (R61, R103; log entry 10). -/
def execCanIdPdu2 (prio : BitVec 3) (edp dp : BitVec 1) (pf ps sa : Byte) (s : State) : Result :=
  give (taggedPf (prio ++ edp ++ dp ++ pf ++ ps ++ sa)) s

end Sys2Proof.Machine
end

