-- ==== Sys2Proof/Machine/PgnCodec.lean ====
section
/-! DEFINITION. The PGN wire codec (40_identifier.md R120, R121), and the PGN row of the wire formats (30_encoding.md
R63). -/

namespace Sys2Proof.Machine

/-- PGN.TOLE: the three wire bytes, byte0 lowest in R0 (R120). -/
def execPgnToLe (pgn : Pgn) (s : State) : Result := give (packWord (pgnToLe pgn)) s

/-- PGN.FROMLE (R121). -/
def execPgnFromLe (b0 b1 b2 : Byte) (s : State) : Result := give ((pgnFromLe b0 b1 b2).setWidth 32) s

/-- PGN.WIRE: the three wire bytes, taken by PGN.FROMLE (R63, R121; log entry 10). -/
def execPgnWire (b0 b1 : Byte) (hi : BitVec 2) (s : State) : Result :=
  give ((pgnFromLe b0 b1 (hi.setWidth 8)).setWidth 32) s

end Sys2Proof.Machine
end

