-- ==== Sys2Proof/Machine/Receiver.lean ====
section
/-! DEFINITION. The receiver role of the transport engine (43_transport_receiver.md R191 to R200), and the two frame
rows of the wire formats (30_encoding.md R65, R66). -/

namespace Sys2Proof.Machine

/-- RXS.FEED of a ConnectionManagement frame of length `n` (R192). The packet count and byte 4 are not examined. -/
def feedConnection (n : Nat) (id : Ident) (pay : List Byte) (s : State) : Result :=
  if n < Config.frameMax then raise .malformedInput s
  else if pay.getD 0 0 ≠ Config.tpBam then raise .protocolViolation s
  else
    let total := leValue [pay.getD 1 0, pay.getD 2 0]
    if Config.tpMax < total then raise .protocolViolation s
    else done (s.openRx (idSa id) (pgnFromLe (pay.getD 5 0) (pay.getD 6 0) (pay.getD 7 0)) (BitVec.ofNat 11 total))

/-- Write a chunk into RXBUF from `off` on, leaving out the bytes at or beyond RX.total (R193 b). -/
def storeChunk : Nat → List Byte → State → State
  | _, [], s => s
  | off, b :: bs, s => storeChunk (off + 1) bs (if off < s.rxTotal.toNat then s.writeRx off b else s)

/-- RXS.FEED of a DataTransfer frame of length `n` (R193): RX.len is assigned, not raised to a maximum. -/
def feedData (n : Nat) (pay : List Byte) (s : State) : Result :=
  if n < 1 then raise .malformedInput s
  else if s.rxState = .idle then raise .protocolViolation s
  else
    let sq := (pay.getD 0 0).toNat
    if sq = 0 then raise .protocolViolation s
    else
      let off := (sq - 1) * Config.tpChunk
      let chunk := (pay.drop 1).take (n - 1)
      done ((storeChunk off chunk s).setRxLen (BitVec.ofNat 11 (min s.rxTotal.toNat (off + (n - 1)))))

/-- RXS.FEED of a frame of length `n`, dispatched by its whole 18-bit PGN (R191, R194). -/
def feedFrame (n : Nat) (id : Ident) (pay : List Byte) (s : State) : Result :=
  if idPgnRaw id = Config.pgnTpCm then feedConnection n id pay s
  else if idPgnRaw id = Config.pgnTpDt then feedData n pay s
  else raise .notTransport s

/-- RXS.FEED (R191). -/
def execRxsFeed (len : BitVec 4) (id : Ident) (pw0 pw1 : Word) (s : State) : Result :=
  feedFrame (frameLen len) id (payloadBytes pw0 pw1) s

/-- An operation that needs a receiver session and returns one word of it. -/
def rxQuery (w : Word) (s : State) : Result :=
  if s.rxState = .idle then raise .noSession s else give w s

/-- RXS.LEN (R195). -/
def execRxsLen (s : State) : Result := rxQuery (s.rxLen.setWidth 32) s

/-- RXS.TOTAL (R196). -/
def execRxsTotal (s : State) : Result := rxQuery (s.rxTotal.setWidth 32) s

/-- RXS.PGN (R197). -/
def execRxsPgn (s : State) : Result := rxQuery (s.rxPgn.setWidth 32) s

/-- RXS.SA (R198). -/
def execRxsSa (s : State) : Result := rxQuery (s.rxSa.setWidth 32) s

/-- RXB.RD: the readable window is the addresses below RX.len (R199), and an address without storage is refused alike, in
every state (20_memory.md R43). -/
def execRxbRd (a : Word) (s : State) : Result :=
  if s.rxState = .idle then raise .noSession s
  else if s.rxLen.toNat ≤ a.toNat || !backed a.toNat then raise .badAddress s
  else give ((s.byteAt .rxBuf a.toNat).setWidth 32) s

/-- RXS.CLOSE: OK in every state (R200). -/
def execRxsClose (s : State) : Result := done s.closeRx

/-- TP.CM.BAM: the BAM frame of these fields, taken by RXS.FEED (R65, R192; log entry 10). -/
def execTpCmBam (id : Ident) (total : BitVec 16) (count : Byte) (pgn : Pgn) (s : State) : Result :=
  feedFrame Config.frameMax id
    ([Config.tpBam, total.extractLsb' 0 8, total.extractLsb' 8 8, count, Config.tpPad] ++ pgnToLe pgn) s

/-- TP.DT: the DataTransfer frame of these fields, taken by RXS.FEED (R66, R193; log entry 10). -/
def execTpDt (id : Ident) (sq : Byte) (data : BitVec 56) (s : State) : Result :=
  feedFrame Config.frameMax id (sq :: (List.range Config.tpChunk).map (fun i => data.extractLsb' (8 * i) 8)) s

end Sys2Proof.Machine
end

