-- ==== Sys2Proof/Machine/Sender.lean ====
section
/-! DEFINITION. The sender role of the transport engine (42_transport_sender.md R171 to R179). -/

namespace Sys2Proof.Machine

/-- TXB.WR: refused while a session exists; the whole word is the address (R171). -/
def execTxbWr (a : Word) (v : Byte) (s : State) : Result :=
  if s.txState ≠ .idle then raise .busy s
  else if !backed a.toNat then raise .badAddress s
  else done (s.writeTx a.toNat v)

/-- TXS.OPEN: accepted in every state; a length above 1785 is refused, not clamped (R172). -/
def execTxsOpen (sa : Byte) (pgn : Pgn) (len : Word) (s : State) : Result :=
  if Config.tpMax < len.toNat then raise .lengthError s
  else done (s.openTx sa pgn (len.setWidth 11))

/-- TXS.COUNT (R173). -/
def execTxsCount (s : State) : Result :=
  if s.txState = .idle then raise .noSession s
  else give (BitVec.ofNat 32 (packetCount s.txTotal)) s

/-- The identifier of an emitted frame: from the parameters and the session's source address, not from BLD (R179). -/
def txIdent (pgn : Pgn) (s : State) : Ident := idBuild s.params.tpPriority pgn s.txSa s.params.tpDa

/-- TXS.NEXT in state ConnectionManagement: the BAM frame (R175). -/
def sendBam (s : State) : Result :=
  giveFrame (txIdent Config.pgnTpCm s) (bamPayload s.txTotal s.txPgn) s.startTx

/-- The `k` bytes of TXBUF from `off` on. -/
def txChunk (off k : Nat) (s : State) : List Byte :=
  (List.range k).map (fun i => s.byteAt .txBuf (off + i))

/-- TXS.NEXT in state DataTransfer with TX.idx below the count: the next DataTransfer frame (R176). A chunk beyond the
buffer's storage, which only a total above 1785 could give, is a fault (log entry 13). -/
def sendData (s : State) : Result :=
  let off := s.txIdx.toNat * Config.tpChunk
  let k := min Config.tpChunk (s.txTotal.toNat - off)
  if !backed (off + k - 1) then .fault (.noStorage (off + k - 1))
  else giveFrame (txIdent Config.pgnTpDt s) (dtPayload (s.txIdx + 1) (txChunk off k s)) s.advanceTx

/-- TXS.NEXT (R174, R177). -/
def execTxsNext (s : State) : Result :=
  match s.txState with
  | .idle => raise .noSession s
  | .connectionManagement => sendBam s
  | .dataTransfer => if s.txIdx.toNat < packetCount s.txTotal then sendData s else raise .exhausted s

/-- TXS.CLOSE: OK in every state; TXBUF keeps its contents (R178). -/
def execTxsClose (s : State) : Result := done s.closeTx

end Sys2Proof.Machine
end

