-- ==== Sys2Proof/Machine/Float.lean ====
section
/-! DEFINITION. IEEE 754 binary32 as the Slot codec uses it (41_slot.md R140 to R144): every operation is the exact
result of its operands, rounded once to nearest, ties to even. -/

namespace Sys2Proof.Machine

/-- What a binary32 pattern stands for (R140): a NaN, an infinity, or the number `± m · 2^e`. -/
inductive F32 where
  | nan
  | inf (neg : Bool)
  | fin (neg : Bool) (m : Nat) (e : Int)
deriving DecidableEq, Repr

/-- The meaning of a bit pattern: sign bit 31, exponent bits 30..23 with bias 127, fraction bits 22..0; exponent 0 gives
zeros and subnormals, exponent 255 infinities and NaNs (R140). -/
def f32OfBits (w : Word) : F32 :=
  let neg := w.getLsbD 31
  let ex := (w.extractLsb' 23 8).toNat
  let fr := (w.extractLsb' 0 23).toNat
  if ex = 255 then (if fr = 0 then .inf neg else .nan)
  else if ex = 0 then .fin neg fr (-149)
  else .fin neg (2 ^ 23 + fr) ((ex : Int) - 150)

/-- The sign bit in place. -/
def f32SignBits (neg : Bool) : Nat := if neg then 2 ^ 31 else 0

/-- The bit pattern of a value whose `m` and `e` are those of a binary32 number: `m < 2^24`, and `m ≥ 2^23` unless
`e = -149`. No operation of the block asks for the pattern of a NaN (R141; log entry 12). -/
def f32ToBits : F32 → Word
  | .nan => Config.freeNanBits
  | .inf neg => BitVec.ofNat 32 (f32SignBits neg + 255 * 2 ^ 23)
  | .fin neg m e => BitVec.ofNat 32 (f32SignBits neg + (e + 149).toNat * 2 ^ 23 + m)

/-- The exponent of the last place of the binary32 number next to `n / d`, with an unbounded exponent range above: the
least `e ≥ -149` with `n / d < 2^(e+24)`. -/
def f32Quantum (n d : Nat) : Int :=
  let e := (n.log2 : Int) - (d.log2 : Int) - 24
  max (if n * 2 ^ (-e).toNat < d * 2 ^ e.toNat * 2 ^ 24 then e else e + 1) (-149)

/-- `N / D` rounded to the nearest integer, ties to even. -/
def roundHalfEven (N D : Nat) : Nat :=
  let q := N / D
  let r := N % D
  if D < 2 * r ∨ (2 * r = D ∧ q % 2 = 1) then q + 1 else q

/-- A significand and exponent as a binary32 value: a carry out of 24 bits moves the exponent, and a value of 2^128 or
more is the infinity of its sign (R141). -/
def f32Pack (neg : Bool) (m : Nat) (e : Int) : F32 :=
  if m = 2 ^ 24 then (if 103 < e then .inf neg else .fin neg (2 ^ 23) (e + 1))
  else if 104 < e then .inf neg
  else .fin neg m e

/-- The magnitude `n / d` with a sign, rounded once to binary32, to nearest, ties to even (R141). -/
def f32Round (neg : Bool) (n d : Nat) : F32 :=
  if n = 0 then .fin neg 0 (-149)
  else
    let e := f32Quantum n d
    f32Pack neg (roundHalfEven (n * 2 ^ (-e).toNat) (d * 2 ^ e.toNat)) e

/-- The value of `± m · 2^e` in units of `2^q`, for `q ≤ e`. -/
def f32Scaled (neg : Bool) (m : Nat) (e q : Int) : Int :=
  (if neg then -1 else 1) * ((m * 2 ^ (e - q).toNat : Nat) : Int)

/-- The value with the other sign. -/
def f32Neg : F32 → F32
  | .nan => .nan
  | .inf neg => .inf (!neg)
  | .fin neg m e => .fin (!neg) m e

/-- `f32_mul` (R141). -/
def f32Mul : F32 → F32 → F32
  | .nan, _ => .nan
  | _, .nan => .nan
  | .inf s, .inf t => .inf (s ^^ t)
  | .inf s, .fin t m _ => if m = 0 then .nan else .inf (s ^^ t)
  | .fin s m _, .inf t => if m = 0 then .nan else .inf (s ^^ t)
  | .fin s m e, .fin t n f =>
    f32Round (s ^^ t) (m * n * 2 ^ (e + f).toNat) (2 ^ (-(e + f)).toNat)

/-- `f32_add` (R141). An exact sum of zero is negative only when both operands are. -/
def f32Add : F32 → F32 → F32
  | .nan, _ => .nan
  | _, .nan => .nan
  | .inf s, .inf t => if s = t then .inf s else .nan
  | .inf s, .fin _ _ _ => .inf s
  | .fin _ _ _, .inf t => .inf t
  | .fin s m e, .fin t n f =>
    let q := min e f
    let v := f32Scaled s m e q + f32Scaled t n f q
    if v = 0 then .fin (s && t) 0 (-149)
    else f32Round (v < 0) (v.natAbs * 2 ^ q.toNat) (2 ^ (-q).toNat)

/-- `f32_sub` (R141). -/
def f32Sub (a b : F32) : F32 := f32Add a (f32Neg b)

/-- `f32_div` (R141). -/
def f32Div : F32 → F32 → F32
  | .nan, _ => .nan
  | _, .nan => .nan
  | .inf _, .inf _ => .nan
  | .inf s, .fin t _ _ => .inf (s ^^ t)
  | .fin s _ _, .inf t => .fin (s ^^ t) 0 (-149)
  | .fin s m e, .fin t n f =>
    if n = 0 then (if m = 0 then .nan else .inf (s ^^ t))
    else f32Round (s ^^ t) (m * 2 ^ (e - f).toNat) (n * 2 ^ (-(e - f)).toNat)

/-- The IEEE comparison `a < b`: zeros of either sign are equal, and a NaN is in no relation (R144). -/
def f32Lt : F32 → F32 → Bool
  | .nan, _ => false
  | _, .nan => false
  | .inf s, .inf t => s && !t
  | .inf s, .fin _ _ _ => s
  | .fin _ _ _, .inf t => !t
  | .fin s m e, .fin t n f => f32Scaled s m e (min e f) < f32Scaled t n f (min e f)

/-- `clamp` (R144). -/
def f32Clamp (x lo hi : F32) : F32 :=
  if f32Lt x lo then lo else if f32Lt hi x then hi else x

/-- `int_to_f32` (R142). -/
def intToF32 (n : Int) : F32 := f32Round (n < 0) n.natAbs 1

/-- `f32_to_int` for a range: toward zero, then saturate; infinities saturate (R143). A NaN does not reach it; the
source language's cast maps it to 0 (93_implementation_defined.md G1; log entry 12). -/
def f32ToInt (lo hi : Int) : F32 → Int
  | .nan => 0
  | .inf neg => if neg then lo else hi
  | .fin neg m e =>
    let t : Int := (if neg then -1 else 1) * ((m * 2 ^ e.toNat / 2 ^ (-e).toNat : Nat) : Int)
    if t < lo then lo else if hi < t then hi else t

/-- Neither NaN nor infinite. -/
def f32Finite : F32 → Bool
  | .fin _ _ _ => true
  | .nan | .inf _ => false

/-- A zero of either sign. -/
def f32IsZero : F32 → Bool
  | .fin _ m _ => m == 0
  | .nan | .inf _ => false

end Sys2Proof.Machine
end

