-- ==== Sys2Proof/Machine/Slot.lean ====
section
/-! DEFINITION. The Slot codec (41_slot.md R145 to R148): one shared decode and one shared encode over the raw type, and
a meaning for each raw type. -/

namespace Sys2Proof.Machine

/-- A legal descriptor: all four constants finite, scale not zero, lower not above upper (R146). The raw type is legal
by construction. -/
def slotLegal (d : SlotDesc) : Bool :=
  f32Finite (f32OfBits d.scale) && f32Finite (f32OfBits d.offset) && f32Finite (f32OfBits d.lower)
    && f32Finite (f32OfBits d.upper) && !f32IsZero (f32OfBits d.scale)
    && !f32Lt (f32OfBits d.upper) (f32OfBits d.lower)

/-- The physical value of a raw integer: two rounded operations, not fused, then the clamp (R141, R142, R144, R147). -/
def slotValue (n : Int) (d : SlotDesc) : F32 :=
  f32Clamp (f32Add (f32Mul (intToF32 n) (f32OfBits d.scale)) (f32OfBits d.offset))
    (f32OfBits d.lower) (f32OfBits d.upper)

/-- The raw integer of a physical value: clamp, inverse transfer, toward zero, saturate (R143, R144, R148). -/
def slotRaw (t : RawType) (v : F32) (d : SlotDesc) : Int :=
  f32ToInt t.lo t.hi
    (f32Div (f32Sub (f32Clamp v (f32OfBits d.lower) (f32OfBits d.upper)) (f32OfBits d.offset)) (f32OfBits d.scale))

/-- SLOT.DEC for a raw pattern of type `t`: the descriptor is checked before the sentinel (R147, R225). -/
def slotDec (t : RawType) (r : Nat) (d : SlotDesc) (s : State) : Result :=
  if !slotLegal d then raise .slotDomain s
  else if r = t.sentinel then finish 0 0 0 s
  else finish (f32ToBits (slotValue (t.value r) d)) 1 0 s

/-- SLOT.ENC to type `t`: the descriptor is checked whether or not there is a value, then the value (R148, R225). -/
def slotEnc (t : RawType) (value : Option Word) (d : SlotDesc) (s : State) : Result :=
  if !slotLegal d then raise .slotDomain s
  else match value with
    | none => give (BitVec.ofNat 32 t.sentinel) s
    | some w =>
      if f32OfBits w = .nan then raise .slotDomain s
      else give (t.pattern (slotRaw t (f32OfBits w) d)) s

/-- SLOT.DEC.U8 (R147). -/
def execSlotDecU8 (raw : BitVec 8) (d : SlotDesc) (s : State) : Result := slotDec .u8 raw.toNat d s

/-- SLOT.DEC.U16 (R147). -/
def execSlotDecU16 (raw : BitVec 16) (d : SlotDesc) (s : State) : Result := slotDec .u16 raw.toNat d s

/-- SLOT.DEC.U32 (R147). -/
def execSlotDecU32 (raw : BitVec 32) (d : SlotDesc) (s : State) : Result := slotDec .u32 raw.toNat d s

/-- SLOT.DEC.I8 (R147). -/
def execSlotDecI8 (raw : BitVec 8) (d : SlotDesc) (s : State) : Result := slotDec .i8 raw.toNat d s

/-- SLOT.DEC.I16 (R147). -/
def execSlotDecI16 (raw : BitVec 16) (d : SlotDesc) (s : State) : Result := slotDec .i16 raw.toNat d s

/-- SLOT.DEC.I32 (R147). -/
def execSlotDecI32 (raw : BitVec 32) (d : SlotDesc) (s : State) : Result := slotDec .i32 raw.toNat d s

/-- SLOT.ENC.U8 (R148). -/
def execSlotEncU8 (value : Option Word) (d : SlotDesc) (s : State) : Result := slotEnc .u8 value d s

/-- SLOT.ENC.U16 (R148). -/
def execSlotEncU16 (value : Option Word) (d : SlotDesc) (s : State) : Result := slotEnc .u16 value d s

/-- SLOT.ENC.U32 (R148). -/
def execSlotEncU32 (value : Option Word) (d : SlotDesc) (s : State) : Result := slotEnc .u32 value d s

/-- SLOT.ENC.I8 (R148). -/
def execSlotEncI8 (value : Option Word) (d : SlotDesc) (s : State) : Result := slotEnc .i8 value d s

/-- SLOT.ENC.I16 (R148). -/
def execSlotEncI16 (value : Option Word) (d : SlotDesc) (s : State) : Result := slotEnc .i16 value d s

/-- SLOT.ENC.I32 (R148). -/
def execSlotEncI32 (value : Option Word) (d : SlotDesc) (s : State) : Result := slotEnc .i32 value d s

end Sys2Proof.Machine
end

