-- ==== Sys2Proof/Machine/Dispatch.lean ====
section
/-! DEFINITION. The dispatch: one arm per constructor of Instr, each one direct call of its meaning. -/

namespace Sys2Proof.Machine

def exec (i : Instr) (s : State) : Host.Outcome State Fault Refusal :=
  match i with
  | .blkReset => Sys2Proof.Machine.execBlkReset s
  | .idNew raw => Sys2Proof.Machine.execIdNew raw s
  | .idPrio id => Sys2Proof.Machine.execIdPrio id s
  | .idDp id => Sys2Proof.Machine.execIdDp id s
  | .idPf id => Sys2Proof.Machine.execIdPf id s
  | .idPs id => Sys2Proof.Machine.execIdPs id s
  | .idPgn id => Sys2Proof.Machine.execIdPgn id s
  | .idDa id => Sys2Proof.Machine.execIdDa id s
  | .idGe id => Sys2Proof.Machine.execIdGe id s
  | .idSa id => Sys2Proof.Machine.execIdSa id s
  | .idBcast id => Sys2Proof.Machine.execIdBcast id s
  | .bldPgn pgn => Sys2Proof.Machine.execBldPgn pgn s
  | .bldPrio p => Sys2Proof.Machine.execBldPrio p s
  | .bldSa sa => Sys2Proof.Machine.execBldSa sa s
  | .bldDa da => Sys2Proof.Machine.execBldDa da s
  | .bldBuild => Sys2Proof.Machine.execBldBuild s
  | .pgnToLe pgn => Sys2Proof.Machine.execPgnToLe pgn s
  | .pgnFromLe b0 b1 b2 => Sys2Proof.Machine.execPgnFromLe b0 b1 b2 s
  | .slotDecU8 raw d => Sys2Proof.Machine.execSlotDecU8 raw d s
  | .slotDecU16 raw d => Sys2Proof.Machine.execSlotDecU16 raw d s
  | .slotDecU32 raw d => Sys2Proof.Machine.execSlotDecU32 raw d s
  | .slotDecI8 raw d => Sys2Proof.Machine.execSlotDecI8 raw d s
  | .slotDecI16 raw d => Sys2Proof.Machine.execSlotDecI16 raw d s
  | .slotDecI32 raw d => Sys2Proof.Machine.execSlotDecI32 raw d s
  | .slotEncU8 value d => Sys2Proof.Machine.execSlotEncU8 value d s
  | .slotEncU16 value d => Sys2Proof.Machine.execSlotEncU16 value d s
  | .slotEncU32 value d => Sys2Proof.Machine.execSlotEncU32 value d s
  | .slotEncI8 value d => Sys2Proof.Machine.execSlotEncI8 value d s
  | .slotEncI16 value d => Sys2Proof.Machine.execSlotEncI16 value d s
  | .slotEncI32 value d => Sys2Proof.Machine.execSlotEncI32 value d s
  | .fldGetW1 len k pw0 pw1 => Sys2Proof.Machine.execFldGetW1 len k pw0 pw1 s
  | .fldGetW2 len k pw0 pw1 => Sys2Proof.Machine.execFldGetW2 len k pw0 pw1 s
  | .fldGetW4 len k pw0 pw1 => Sys2Proof.Machine.execFldGetW4 len k pw0 pw1 s
  | .fldPutW1 len k pw0 pw1 raw => Sys2Proof.Machine.execFldPutW1 len k pw0 pw1 raw s
  | .fldPutW2 len k pw0 pw1 raw => Sys2Proof.Machine.execFldPutW2 len k pw0 pw1 raw s
  | .fldPutW4 len k pw0 pw1 raw => Sys2Proof.Machine.execFldPutW4 len k pw0 pw1 raw s
  | .txbWr a v => Sys2Proof.Machine.execTxbWr a v s
  | .txsOpen sa pgn len => Sys2Proof.Machine.execTxsOpen sa pgn len s
  | .txsCount => Sys2Proof.Machine.execTxsCount s
  | .txsNext => Sys2Proof.Machine.execTxsNext s
  | .txsClose => Sys2Proof.Machine.execTxsClose s
  | .rxsFeed len id pw0 pw1 => Sys2Proof.Machine.execRxsFeed len id pw0 pw1 s
  | .rxsLen => Sys2Proof.Machine.execRxsLen s
  | .rxsTotal => Sys2Proof.Machine.execRxsTotal s
  | .rxsPgn => Sys2Proof.Machine.execRxsPgn s
  | .rxsSa => Sys2Proof.Machine.execRxsSa s
  | .rxbRd a => Sys2Proof.Machine.execRxbRd a s
  | .rxsClose => Sys2Proof.Machine.execRxsClose s
  | .canId prio edp dp pf ps sa => Sys2Proof.Machine.execCanId prio edp dp pf ps sa s
  | .canIdPdu2 prio edp dp pf ps sa => Sys2Proof.Machine.execCanIdPdu2 prio edp dp pf ps sa s
  | .pgnWire b0 b1 hi => Sys2Proof.Machine.execPgnWire b0 b1 hi s
  | .tpCmBam id total count pgn => Sys2Proof.Machine.execTpCmBam id total count pgn s
  | .tpDt id sq data => Sys2Proof.Machine.execTpDt id sq data s

end Sys2Proof.Machine
end

