-- ==== Sys2Proof/Machine/Step.lean ====
section
/-! DEFINITION. One step: the block takes the first thing the host sends (30_encoding.md R74; 70_reset_and_hazards.md
R265). -/

namespace Sys2Proof.Machine

/-- One step. A command block that is an operation is executed (R80), an illegal one is answered (R81), the reset input
resets the block (R250), and with nothing sent nothing happens (R265). -/
def step (s : State) : Host.Outcome State Fault Refusal :=
  match s.inputs with
  | [] => takeNothing s
  | .hardReset :: _ => takeHardReset s.dropInput
  | .command c :: _ =>
    match decode c with
    | .ok i => exec i s.dropInput
    | .illegal _ => takeIllegal s.dropInput

/-- The state with a word of spec/opcode_table.json as the very next thing the host sends (log entry 11). -/
def State.withFetchWord (s : State) (nbits w : Nat) : State :=
  { s with inputs := .command (tableCommand nbits w) :: s.inputs }

end Sys2Proof.Machine
end

