-- ==== Sys2Proof/Safety.lean ====
section
/-! DEFINITION. What counts as a safe state, and the terms in which the statements speak: an operation's answer, runs of
operations, and the operations of one shape under one name. -/

namespace Sys2Proof

/-! ### Kinds of operations -/

/-- The five wire-format rows of the opcode table (log entry 10). -/
def Instr.isWire : Instr → Bool
  | .canId _ _ _ _ _ _ | .canIdPdu2 _ _ _ _ _ _ | .pgnWire _ _ _ | .tpCmBam _ _ _ _ | .tpDt _ _ _ => true
  | .blkReset | .idNew _ | .idPrio _ | .idDp _ | .idPf _ | .idPs _ | .idPgn _ | .idDa _ | .idGe _ | .idSa _
  | .idBcast _ | .bldPgn _ | .bldPrio _ | .bldSa _ | .bldDa _ | .bldBuild | .pgnToLe _ | .pgnFromLe _ _ _
  | .slotDecU8 _ _ | .slotDecU16 _ _ | .slotDecU32 _ _ | .slotDecI8 _ _ | .slotDecI16 _ _ | .slotDecI32 _ _
  | .slotEncU8 _ _ | .slotEncU16 _ _ | .slotEncU32 _ _ | .slotEncI8 _ _ | .slotEncI16 _ _ | .slotEncI32 _ _
  | .fldGetW1 _ _ _ _ | .fldGetW2 _ _ _ _ | .fldGetW4 _ _ _ _
  | .fldPutW1 _ _ _ _ _ | .fldPutW2 _ _ _ _ _ | .fldPutW4 _ _ _ _ _
  | .txbWr _ _ | .txsOpen _ _ _ | .txsCount | .txsNext | .txsClose
  | .rxsFeed _ _ _ _ | .rxsLen | .rxsTotal | .rxsPgn | .rxsSa | .rxbRd _ | .rxsClose => false

/-- Where an operation stands in R25's table of read and write sets. -/
inductive OpUnit where
  /-- ID.*, PGN.*, SLOT.*, FLD.* and the wire rows that act as them: "reads and writes no state". -/
  | stateless
  /-- BLD.PGN, BLD.PRIO, BLD.SA, BLD.DA, BLD.BUILD. -/
  | builder
  /-- TXB.WR, TXS.OPEN, TXS.COUNT, TXS.NEXT, TXS.CLOSE. -/
  | sender
  /-- RXS.FEED, RXS.LEN, RXS.TOTAL, RXS.PGN, RXS.SA, RXB.RD, RXS.CLOSE and the wire rows that act as RXS.FEED. -/
  | receiver
  /-- BLK.RESET. -/
  | whole
deriving DecidableEq, Repr

/-- The unit an operation belongs to (10_state.md R25). -/
def Instr.unit : Instr → OpUnit
  | .blkReset => .whole
  | .bldPgn _ | .bldPrio _ | .bldSa _ | .bldDa _ | .bldBuild => .builder
  | .txbWr _ _ | .txsOpen _ _ _ | .txsCount | .txsNext | .txsClose => .sender
  | .rxsFeed _ _ _ _ | .rxsLen | .rxsTotal | .rxsPgn | .rxsSa | .rxbRd _ | .rxsClose
  | .tpCmBam _ _ _ _ | .tpDt _ _ _ => .receiver
  | .idNew _ | .idPrio _ | .idDp _ | .idPf _ | .idPs _ | .idPgn _ | .idDa _ | .idGe _ | .idSa _ | .idBcast _
  | .pgnToLe _ | .pgnFromLe _ _ _
  | .slotDecU8 _ _ | .slotDecU16 _ _ | .slotDecU32 _ _ | .slotDecI8 _ _ | .slotDecI16 _ _ | .slotDecI32 _ _
  | .slotEncU8 _ _ | .slotEncU16 _ _ | .slotEncU32 _ _ | .slotEncI8 _ _ | .slotEncI16 _ _ | .slotEncI32 _ _
  | .fldGetW1 _ _ _ _ | .fldGetW2 _ _ _ _ | .fldGetW4 _ _ _ _
  | .fldPutW1 _ _ _ _ _ | .fldPutW2 _ _ _ _ _ | .fldPutW4 _ _ _ _ _
  | .canId _ _ _ _ _ _ | .canIdPdu2 _ _ _ _ _ _ | .pgnWire _ _ _ => .stateless

end Sys2Proof

namespace Sys2Proof.Machine

/-! ### The invariant -/

/-- What holds after reset and after every operation (10_state.md R24), with the canonical form of the two buffers: a
sender session has at most 1785 bytes, its index is at most its packet count once the BAM frame is out, and an open
receiver session has length ≤ total ≤ 1785. R24 bounds TX.idx in state ConnectionManagement too, which R172 does not
keep (log entry 14). -/
abbrev State.inv (s : State) : Prop :=
  Memory.wf (s.unlisted .txBuf) s.txBuf ∧ Memory.wf (s.unlisted .rxBuf) s.rxBuf ∧
  (s.txState ≠ .idle → s.txTotal.toNat ≤ 1785) ∧
  (s.txState = .dataTransfer → s.txIdx.toNat ≤ packetCount s.txTotal) ∧
  (s.rxState = .dataTransfer → s.rxLen.toNat ≤ s.rxTotal.toNat ∧ s.rxTotal.toNat ≤ 1785)

/-- The bounds of R24 word for word: TX.idx is bounded whenever TX.state is not Idle. -/
abbrev State.inv24 (s : State) : Prop :=
  s.bldPri.toNat ≤ 7 ∧
  (s.txState ≠ .idle → s.txTotal.toNat ≤ 1785 ∧ s.txIdx.toNat ≤ packetCount s.txTotal ∧
    packetCount s.txTotal ≤ 255) ∧
  (s.rxState = .dataTransfer → s.rxLen.toNat ≤ s.rxTotal.toNat ∧ s.rxTotal.toNat ≤ 1785)

/-! ### Banks -/

/-- Two states that agree on the builder bank (10_state.md R13). -/
abbrev sameBuilder (s u : State) : Prop :=
  s.bldPgn = u.bldPgn ∧ s.bldPri = u.bldPri ∧ s.bldSa = u.bldSa ∧ s.bldDa = u.bldDa

/-- Two states that agree on the sender bank and TXBUF (R14, R17). -/
abbrev sameSender (s u : State) : Prop :=
  s.txState = u.txState ∧ s.txSa = u.txSa ∧ s.txPgn = u.txPgn ∧ s.txTotal = u.txTotal ∧ s.txIdx = u.txIdx ∧
  s.txBuf = u.txBuf

/-- Two states that agree on the receiver bank and RXBUF (R15, R18). -/
abbrev sameReceiver (s u : State) : Prop :=
  s.rxState = u.rxState ∧ s.rxSa = u.rxSa ∧ s.rxPgn = u.rxPgn ∧ s.rxTotal = u.rxTotal ∧ s.rxLen = u.rxLen ∧
  s.rxBuf = u.rxBuf

/-- Two outcomes that cannot be told apart from a bank: the same stop, or next states with one response that agree on the
bank. -/
def outcomesAgree (bank : State → State → Prop) : Result → Result → Prop
  | .next t, .next v => t.response = v.response ∧ bank t v
  | .fault f, .fault g => f = g
  | .refused r, .refused q => r = q
  | _, _ => False

/-! ### Answers -/

/-- The operation ends with this response and changes nothing else. -/
abbrev answers (i : Instr) (s : State) (r : Response) : Prop := exec i s = .next { s with response := some r }

/-- The operation ends with an error of this number, zero results, and no effect (R226). -/
abbrev failsWith (i : Instr) (s : State) (code : Word) : Prop := answers i s ⟨code, 0, 0, 0⟩

/-- The response an operation gives, if it gives one. -/
def responseOf (i : Instr) (s : State) : Option Response :=
  match exec i s with
  | .next t => t.response
  | .fault _ => none
  | .refused _ => none

/-- Result word R0 of an operation, if it gives a response. -/
def r0Of (i : Instr) (s : State) : Option Word := (responseOf i s).map Response.r0

/-- Every block with this header is the operation that the function makes of its operand words, whatever they hold. -/
abbrev encodedAs (w0 : Word) (f : Word → Word → Word → Word → Word → Instr) : Prop :=
  ∀ w1 w2 w3 w4 w5 : Word, decode ⟨w0, w1, w2, w3, w4, w5⟩ = .ok (f w1 w2 w3 w4 w5)

/-- Operations executed one after the other, stopping at a fault or a refusal. -/
def runAll : List Instr → State → Result
  | [], s => .next s
  | i :: is, s =>
    match exec i s with
    | .next t => runAll is t
    | .fault f => .fault f
    | .refused r => .refused r

/-- `BUILD pgn, p, sa, da` (30_encoding.md R85). -/
def buildOps (pgn : Pgn) (p sa da : Byte) : List Instr :=
  [.bldPgn pgn, .bldPrio p, .bldSa sa, .bldDa da, .bldBuild]

/-! ### Operations of one shape -/

/-- The code T of a raw type: 0, 1, 2 unsigned and 4, 5, 6 signed, of 1, 2, 4 bytes (R70, R83). -/
def RawType.code : RawType → Nat
  | .u8 => 0
  | .u16 => 1
  | .u32 => 2
  | .i8 => 4
  | .i16 => 5
  | .i32 => 6

/-- SLOT.DEC of a raw type, the raw pattern in the low bits of a word. -/
def decInstr (t : RawType) (raw : Word) (d : SlotDesc) : Instr :=
  match t with
  | .u8 => .slotDecU8 (raw.setWidth 8) d
  | .u16 => .slotDecU16 (raw.setWidth 16) d
  | .u32 => .slotDecU32 raw d
  | .i8 => .slotDecI8 (raw.setWidth 8) d
  | .i16 => .slotDecI16 (raw.setWidth 16) d
  | .i32 => .slotDecI32 raw d

/-- SLOT.ENC of a raw type. -/
def encInstr (t : RawType) (value : Option Word) (d : SlotDesc) : Instr :=
  match t with
  | .u8 => .slotEncU8 value d
  | .u16 => .slotEncU16 value d
  | .u32 => .slotEncU32 value d
  | .i8 => .slotEncI8 value d
  | .i16 => .slotEncI16 value d
  | .i32 => .slotEncI32 value d

/-- The width codes of FLD.GET and FLD.PUT: T = 0, 1, 2 for 1, 2, 4 bytes (R70, R83). -/
inductive FieldWidth where
  | w1
  | w2
  | w4
deriving DecidableEq, Repr

/-- The width in bytes. -/
def FieldWidth.bytes : FieldWidth → Nat
  | .w1 => 1
  | .w2 => 2
  | .w4 => 4

/-- The code T[1:0] of a width: its logarithm (R153). -/
def FieldWidth.code : FieldWidth → Nat
  | .w1 => 0
  | .w2 => 1
  | .w4 => 2

/-- The header of FLD.GET or FLD.PUT: OP, LEN in MOD[7:4], the ignored MOD[2], the width code in MOD[1:0] (R80, R153). -/
def fieldHeader (op : Nat) (w : FieldWidth) (len : BitVec 4) (sign : Bool) : Word :=
  BitVec.ofNat 32 (op * 2 ^ 24 + len.toNat * 2 ^ 20 + (if sign then 2 ^ 18 else 0) + w.code * 2 ^ 16)

/-- FLD.GET of a width. -/
def getInstr (w : FieldWidth) (len : BitVec 4) (k pw0 pw1 : Word) : Instr :=
  match w with
  | .w1 => .fldGetW1 len k pw0 pw1
  | .w2 => .fldGetW2 len k pw0 pw1
  | .w4 => .fldGetW4 len k pw0 pw1

/-- FLD.PUT of a width, the raw pattern in the low bits of a word. -/
def putInstr (w : FieldWidth) (len : BitVec 4) (k pw0 pw1 raw : Word) : Instr :=
  match w with
  | .w1 => .fldPutW1 len k pw0 pw1 (raw.setWidth 8)
  | .w2 => .fldPutW2 len k pw0 pw1 (raw.setWidth 16)
  | .w4 => .fldPutW4 len k pw0 pw1 raw

/-! ### Slot descriptors and binary32 numbers -/

/-- A pattern of a finite number: its exponent field is not 255 (41_slot.md R140). -/
def finitePattern (w : Word) : Prop := w.toNat / 2 ^ 23 % 256 ≠ 255

/-- A pattern of a NaN: exponent field 255, fraction not 0 (R140). -/
def nanPattern (w : Word) : Prop := w.toNat / 2 ^ 23 % 256 = 255 ∧ w.toNat % 2 ^ 23 ≠ 0

/-- A legal slot descriptor, its raw type being legal by construction (R146): four finite constants, a scale that is
neither +0.0 nor -0.0, and `lower <= upper`. -/
def legalDescriptor (d : SlotDesc) : Prop :=
  finitePattern d.scale ∧ finitePattern d.offset ∧ finitePattern d.lower ∧ finitePattern d.upper ∧
  d.scale.toNat % 2 ^ 31 ≠ 0 ∧ f32Lt (f32OfBits d.upper) (f32OfBits d.lower) = false

/-- The number `± m · 2^e`. -/
def f32Rat (neg : Bool) (m : Nat) (e : Int) : ℚ := (if neg then -1 else 1) * (m : ℚ) * (2 : ℚ) ^ e

/-! ### Frames, as the wire formats have them -/

/-- Byte `j` of a payload in two words (30_encoding.md R75). -/
def payByte (pw0 pw1 : Word) (j : Nat) : Nat := (pw0.toNat + 2 ^ 32 * pw1.toNat) / 2 ^ (8 * j) % 256

/-- Payload words of a list of eight bytes (R75). -/
def frameWord0 (pay : List Byte) : Word := BitVec.ofNat 32 (leValue (pay.take 4))
/-- The second payload word (R75). -/
def frameWord1 (pay : List Byte) : Word := BitVec.ofNat 32 (leValue (pay.drop 4))

/-- RXS.FEED of a full frame with a payload of eight bytes. -/
def feedInstr (id : Ident) (pay : List Byte) : Instr := .rxsFeed 8 id (frameWord0 pay) (frameWord1 pay)

/-- An identifier of a transport frame: any priority, destination and source address (R204). -/
def transportId (prio : BitVec 3) (pgn : Pgn) (da sa : Byte) : Ident :=
  BitVec.ofNat 29 (prio.toNat * 2 ^ 26 + pgn.toNat * 2 ^ 8 + da.toNat * 2 ^ 8 + sa.toNat)

/-- The payload of the BAM frame that announces `total` bytes of `pgn` (R65). -/
def bamBytes (total : Nat) (pgn : Pgn) : List Byte :=
  [0x20, BitVec.ofNat 8 total, BitVec.ofNat 8 (total / 256), BitVec.ofNat 8 ((total + 6) / 7), 0xFF,
    BitVec.ofNat 8 pgn.toNat, BitVec.ofNat 8 (pgn.toNat / 2 ^ 8), BitVec.ofNat 8 (pgn.toNat / 2 ^ 16)]

/-- The payload of DataTransfer frame number `sq` of the payload `d`: the sequence number, then bytes 7(sq-1) to 7(sq-1)+6
of `d`, 0xFF past its end (R66, R180). -/
def dtBytes (d : List Byte) (sq : Nat) : List Byte :=
  BitVec.ofNat 8 sq :: (List.range 7).map (fun i => d.getD (7 * (sq - 1) + i) 0xFF)

/-- The frames of a transfer, BAM first, then sequence 1 to ceil(L/7), each fed to the receiver (R180, R204). -/
def feedTransfer (prio : BitVec 3) (da sa : Byte) (pgn : Pgn) (d : List Byte) : List Instr :=
  feedInstr (transportId prio 0x0EC00 da sa) (bamBytes d.length pgn) ::
    (List.range ((d.length + 6) / 7)).map
      (fun j => feedInstr (transportId prio 0x0EB00 da sa) (dtBytes d (j + 1)))

end Sys2Proof.Machine
end

