-- ==== Sys2Proof/Certificates/Slice0/Obligations.lean ====
section
/-! DEFINITION. The statements about the block for the provers, most of them a numbered rule of spec/ each. An operation's
result is stated as the whole next state, so that what it leaves unchanged is part of the statement. -/

open Sys2Proof Sys2Proof.Machine

/-! ### Reset and the invariant -/

/-- 10_state.md section 9 and 70_reset_and_hazards.md section 1: the builder holds (0, 6, 0, 0), both banks are Idle, no
TXBUF byte has a stated value and no response is pending. -/
def Obligations.ResetLeavesTheStatedValues : Prop :=
  State.reset.bldPgn = 0 ∧ State.reset.bldPri = 6 ∧ State.reset.bldSa = 0 ∧ State.reset.bldDa = 0 ∧
  State.reset.txState = .idle ∧ State.reset.rxState = .idle ∧ State.reset.response = none ∧
  State.reset.params.tpPriority = 6 ∧ State.reset.params.tpDa = 0xFF ∧ State.reset.params.rxFill = 0x00 ∧
  ∀ a, State.reset.readByte .txBuf a = none

/-- 70_reset_and_hazards.md sections 1 and 5: the reset input leaves the same stated values in every state, the instance's
parameters and what the host sends next being no state of the block (the model's choice, log entry 8). -/
def Obligations.HardwareResetLeavesTheStatedValues : Prop :=
  ∀ (s : State) (rest : List Input), s.inputs = .hardReset :: rest →
    ∃ t, step s = .next t ∧
      t.bldPgn = 0 ∧ t.bldPri = 6 ∧ t.bldSa = 0 ∧ t.bldDa = 0 ∧ t.txState = .idle ∧ t.rxState = .idle ∧
      t.response = none ∧ (∀ a, t.readByte .txBuf a = none) ∧ t.inputs = rest ∧ t.params = s.params

/-- R251: BLK.RESET writes six registers, leaves the session registers and RXBUF, and TXBUF is unspecified again. -/
def Obligations.BlkResetReinitialises : Prop :=
  encodedAs 0x01000000 (fun _ _ _ _ _ => .blkReset) ∧
  ∀ s : State, ∃ t, exec .blkReset s = .next t ∧
    t = { s with bldPgn := 0, bldPri := 6, bldSa := 0, bldDa := 0, txState := .idle, rxState := .idle,
                 txBuf := t.txBuf, txEpoch := t.txEpoch, response := some ⟨0, 0, 0, 0⟩ } ∧
    ∀ a, t.readByte .txBuf a = none

/-- The invariant (the bounds of R24 and the canonical form of the buffers) and the bounds of R24 word for word hold right
after reset. -/
def Obligations.InvariantHoldsAtReset : Prop := State.reset.inv ∧ State.reset.inv24

/-- Every step, whatever the host sends, keeps the invariant, from every state that has it. -/
def Obligations.StepKeepsTheInvariant : Prop :=
  ∀ s t : State, s.inv → step s = .next t → t.inv

/-- R24's bound of TX.idx in every state but Idle, taken word for word, is not kept: TXS.OPEN leaves TX.idx as the former
session left it (R172; log entry 14). Expected to fail. -/
def Obligations.IndexBoundInConnectionManagementIsKept : Prop :=
  ∀ s t : State, s.inv24 → step s = .next t → t.inv24

/-- 10_state.md section 6, the bounds that hold after every operation (an inference the spec marks as derived), word for
word, TX.idx bounded in state ConnectionManagement too: every step keeps them, but a TXS.OPEN over a former session that had
emitted more frames than the new one has, which leaves TX.idx as it was (R172; log entry 14). -/
def Obligations.StatedBoundsAreKept : Prop :=
  ∀ s t : State, s.inv24 → step s = .next t →
    (∀ (c : Command) (rest : List Input) (sa : Byte) (pgn : Pgn) (len : Word), s.inputs = .command c :: rest →
      decode c = .ok (.txsOpen sa pgn len) → len.toNat ≤ 1785 → s.txIdx.toNat ≤ (len.toNat + 6) / 7) →
    t.inv24

/-! ### Encodings -/

/-- Decoding the block that the host issues for an operation gives that operation, with every operand at every value. -/
def Obligations.DecodeOfEncodeIsTheInstruction : Prop :=
  ∀ i : Instr, i.isWire = false → decode (encode i) = .ok i

/-- The five wire-format rows are forms of ID.NEW, ID.PF, PGN.FROMLE and RXS.FEED (the model's choice, log entry 10):
their block decodes to that operation, and their meaning is that operation's in every state. -/
def Obligations.WireRowsActAsTheirOperation : Prop :=
  ∀ i : Instr, i.isWire = true →
    i.core.isWire = false ∧ decode (encode i) = .ok i.core ∧ ∀ s, exec i s = exec i.core s

/-- R81's list of conditions over the fields OP, MOD and W0[15:0] of a header word. -/
def illegalHeader (w0 : Word) : Prop :=
  let op := w0.toNat / 2 ^ 24
  let modifier := w0.toNat / 2 ^ 16 % 2 ^ 8
  let reserved : Nat :=
    if op = 0x40 then 0xF8 else if op = 0x41 then 0x78 else if op = 0x48 ∨ op = 0x49 then 0x08
    else if op = 0x60 then 0xF0 else 0xFF
  op ∉ [0x01, 0x10, 0x11, 0x12, 0x13, 0x14, 0x15, 0x16, 0x17, 0x18, 0x19, 0x20, 0x21, 0x22, 0x23, 0x24, 0x30, 0x31,
        0x40, 0x41, 0x48, 0x49, 0x50, 0x51, 0x52, 0x53, 0x54, 0x60, 0x61, 0x62, 0x63, 0x64, 0x65, 0x66] ∨
  w0.toNat % 2 ^ 16 ≠ 0 ∨
  modifier &&& reserved ≠ 0 ∨
  ((op = 0x40 ∨ op = 0x41) ∧ (modifier % 8 = 3 ∨ modifier % 8 = 7)) ∨
  ((op = 0x48 ∨ op = 0x49) ∧ modifier % 4 = 3)

/-- R81: a block under one of these conditions is answered ILLEGAL_COMMAND with no effect, and a block under none of
them is an operation, whatever its operand words hold; the all-zero block is illegal. -/
def Obligations.IllegalBlocksAreAnsweredAndOthersRun : Prop :=
  illegalHeader 0 ∧
  ∀ (s : State) (c : Command) (rest : List Input), s.inputs = .command c :: rest →
    (illegalHeader c.w0 → step s = .next { s with inputs := rest, response := some ⟨3, 0, 0, 0⟩ }) ∧
    (¬ illegalHeader c.w0 → ∃ i, decode c = .ok i ∧ step s = exec i { s with inputs := rest })

/-- The rows of spec/opcode_table.json decide the decoder: a block is an operation exactly when a row matches it, the
operation has the row's mnemonic, and no block matches two rows. -/
def Obligations.TableRowsDecideTheDecoder : Prop :=
  (∀ (c : Command) (r : OpRow), r ∈ opTable → r.matches c = true →
    ∃ i, decode c = .ok i ∧ i.mnemonic = r.mnemonic) ∧
  (∀ c : Command, (∀ r ∈ opTable, r.matches c = false) → ∃ why, decode c = .illegal why) ∧
  opTable.Pairwise (fun r q => ∀ c : Command, r.matches c = true → q.matches c = false)

/-- R123: bits 31..29 of the word that carries an identifier operand are ignored, for ID.PRIO to ID.BCAST and RXS.FEED. -/
def Obligations.IdentifierOperandHighBitsAreIgnored : Prop :=
  ∀ c : Command, (c.w0.toNat / 2 ^ 24 ∈ [0x11, 0x12, 0x13, 0x14, 0x15, 0x16, 0x17, 0x18, 0x19, 0x60]) →
    decode c = decode { c with w1 := c.w1 &&& 0x1FFFFFFF }

/-- Seven blocks written out from the encodings of 30_encoding.md and the programs of 95_test_vectors.md decode to what they
stand for; the last clause is a word of the table's TP.CM.BAM row, read as the model chooses (log entries 10 and 11). A
sanity statement. -/
def Obligations.SampleWordsDecode : Prop :=
  decode ⟨0x10000000, 0x8CFE6CEE, 0, 0, 0, 0⟩ = .ok (.idNew 0x8CFE6CEE) ∧
  decode ⟨0x21000000, 0x00000009, 0, 0, 0, 0⟩ = .ok (.bldPrio 9) ∧
  decode ⟨0x48810000, 0x00000003, 0x007DFFF0, 0xFFFFFF32, 0, 0⟩ = .ok (.fldGetW2 8 3 0x007DFFF0 0xFFFFFF32) ∧
  decode ⟨0x41810000, 0x447A0000, 0x3E000000, 0, 0, 0x45FAFF00⟩ =
    .ok (.slotEncU16 (some 0x447A0000) ⟨0x3E000000, 0, 0, 0x45FAFF00⟩) ∧
  decode ⟨0x51000000, 0x00000080, 0x0000FECA, 0x00000009, 0, 0⟩ = .ok (.txsOpen 0x80 0xFECA 9) ∧
  decode ⟨0x60080000, 0x18ECFF80, 0x02000920, 0x00FECAFF, 0, 0⟩ = .ok (.rxsFeed 8 0x18ECFF80 0x02000920 0x00FECAFF) ∧
  decode ⟨0x11000001, 0x18EAFF00, 0, 0, 0, 0⟩ = .illegal .reservedWord ∧
  decodeTableWord 32 0x00EC0000 = some (.tpCmBam 0x00EC0000 0 0 0)

/-! ### Steps -/

/-- 20_memory.md section 6 and 70_reset_and_hazards.md section 5: a step takes the host's next command block and is the
operation it decodes to; nothing else is around the operation. With nothing sent, nothing happens (log entry 9). -/
def Obligations.StepRunsTheDecodedInstruction : Prop :=
  (∀ (s : State) (c : Command) (rest : List Input) (i : Instr), s.inputs = .command c :: rest → decode c = .ok i →
    step s = exec i { s with inputs := rest }) ∧
  (∀ s : State, s.inputs = [] → step s = .next s)

/-- A word of spec/opcode_table.json placed as the host's next input runs the operation that the decoder reads from it
(the model's way of placing one, log entries 10 and 11). -/
def Obligations.TableWordRunsItsRow : Prop :=
  ∀ (s : State) (nbits w : Nat) (i : Instr), decodeTableWord nbits w = some i →
    step (s.withFetchWord nbits w) = exec i s

/-! ### Identifier operations -/

/-- R100: ID.NEW returns the word masked to 29 bits. -/
def Obligations.IdNewMasksTo29Bits : Prop :=
  encodedAs 0x10000000 (fun w1 _ _ _ _ => .idNew w1) ∧
  ∀ (raw : Word) (s : State), answers (.idNew raw) s ⟨0, raw &&& 0x1FFFFFFF, 0, 0⟩

/-- R101, R102, R104, R108: priority, data page, PDU Specific and source address are the identifier's bits 28..26, 24,
15..8 and 7..0. -/
def Obligations.IdFieldsAreTheIdentifierBits : Prop :=
  encodedAs 0x11000000 (fun w1 _ _ _ _ => .idPrio (BitVec.ofNat 29 w1.toNat)) ∧
  encodedAs 0x12000000 (fun w1 _ _ _ _ => .idDp (BitVec.ofNat 29 w1.toNat)) ∧
  encodedAs 0x14000000 (fun w1 _ _ _ _ => .idPs (BitVec.ofNat 29 w1.toNat)) ∧
  encodedAs 0x18000000 (fun w1 _ _ _ _ => .idSa (BitVec.ofNat 29 w1.toNat)) ∧
  ∀ (id : Ident) (s : State),
    answers (.idPrio id) s ⟨0, BitVec.ofNat 32 (id.toNat / 2 ^ 26), 0, 0⟩ ∧
    answers (.idDp id) s ⟨0, BitVec.ofNat 32 (id.toNat / 2 ^ 24 % 2), 0, 0⟩ ∧
    answers (.idPs id) s ⟨0, BitVec.ofNat 32 (id.toNat / 2 ^ 8 % 2 ^ 8), 0, 0⟩ ∧
    answers (.idSa id) s ⟨0, BitVec.ofNat 32 (id.toNat % 2 ^ 8), 0, 0⟩

/-- R103: PF with tag 0 below 240 and tag 1 from 240 on. -/
def Obligations.IdPfIsTaggedByFormat : Prop :=
  encodedAs 0x13000000 (fun w1 _ _ _ _ => .idPf (BitVec.ofNat 29 w1.toNat)) ∧
  ∀ (id : Ident) (s : State), let pf := id.toNat / 2 ^ 16 % 2 ^ 8
    answers (.idPf id) s ⟨0, BitVec.ofNat 32 (if 240 ≤ pf then 2 ^ 8 + pf else pf), 0, 0⟩

/-- R105: the 18-bit PGN, its low byte zero under PDU1. -/
def Obligations.IdPgnIsTheRawPgn : Prop :=
  encodedAs 0x15000000 (fun w1 _ _ _ _ => .idPgn (BitVec.ofNat 29 w1.toNat)) ∧
  ∀ (id : Ident) (s : State), let pf := id.toNat / 2 ^ 16 % 2 ^ 8
    answers (.idPgn id) s
      ⟨0, BitVec.ofNat 32
        (if 240 ≤ pf then id.toNat / 2 ^ 8 % 2 ^ 18 else id.toNat / 2 ^ 16 % 2 ^ 10 * 2 ^ 8), 0, 0⟩

/-- R106, R107: the destination address is Some exactly under PDU1, the group extension exactly under PDU2; both are the
PDU Specific byte. -/
def Obligations.IdDaAndIdGeSplitByFormat : Prop :=
  encodedAs 0x16000000 (fun w1 _ _ _ _ => .idDa (BitVec.ofNat 29 w1.toNat)) ∧
  encodedAs 0x17000000 (fun w1 _ _ _ _ => .idGe (BitVec.ofNat 29 w1.toNat)) ∧
  ∀ (id : Ident) (s : State), let pf := id.toNat / 2 ^ 16 % 2 ^ 8; let ps := id.toNat / 2 ^ 8 % 2 ^ 8
    answers (.idDa id) s ⟨0, BitVec.ofNat 32 (if pf < 240 then 2 ^ 8 + ps else 0), 0, 0⟩ ∧
    answers (.idGe id) s ⟨0, BitVec.ofNat 32 (if 240 ≤ pf then 2 ^ 8 + ps else 0), 0, 0⟩

/-- R109: PDU2 is a broadcast, PDU1 is one exactly when the destination address is 0xFF. -/
def Obligations.IdBcastIsDestinationAware : Prop :=
  encodedAs 0x19000000 (fun w1 _ _ _ _ => .idBcast (BitVec.ofNat 29 w1.toNat)) ∧
  ∀ (id : Ident) (s : State), let pf := id.toNat / 2 ^ 16 % 2 ^ 8; let ps := id.toNat / 2 ^ 8 % 2 ^ 8
    answers (.idBcast id) s ⟨0, if 240 ≤ pf then 1 else if ps = 0xFF then 1 else 0, 0, 0⟩

/-- 30_encoding.md sections A1 and A2 under log entry 10 (the model's choice): CANID answers the identifier of its fields,
CANID.PDU2 its PDU Format tagged as PDU2, PGN.WIRE the PGN of its bytes. -/
def Obligations.WireDataRowsAnswerTheirValue : Prop :=
  (∀ (p : BitVec 3) (e d : BitVec 1) (pf ps sa : Byte) (s : State),
    answers (.canId p e d pf ps sa) s
      ⟨0, BitVec.ofNat 32 (p.toNat * 2 ^ 26 + e.toNat * 2 ^ 25 + d.toNat * 2 ^ 24 + pf.toNat * 2 ^ 16 +
        ps.toNat * 2 ^ 8 + sa.toNat), 0, 0⟩) ∧
  (∀ (p : BitVec 3) (e d : BitVec 1) (pf ps sa : Byte) (s : State),
    (Instr.canIdPdu2 p e d pf ps sa).wellFormed = true →
      answers (.canIdPdu2 p e d pf ps sa) s ⟨0, BitVec.ofNat 32 (2 ^ 8 + pf.toNat), 0, 0⟩) ∧
  (∀ (b0 b1 : Byte) (hi : BitVec 2) (s : State),
    answers (.pgnWire b0 b1 hi) s
      ⟨0, BitVec.ofNat 32 (b0.toNat + b1.toNat * 2 ^ 8 + hi.toNat * 2 ^ 16), 0, 0⟩)

/-! ### Builder and PGN codec -/

/-- R110 to R113: what the four register operations write; every other register stays. -/
def Obligations.BuilderRegistersAreWritten : Prop :=
  encodedAs 0x20000000 (fun w1 _ _ _ _ => .bldPgn (BitVec.ofNat 18 w1.toNat)) ∧
  encodedAs 0x21000000 (fun w1 _ _ _ _ => .bldPrio (BitVec.ofNat 8 w1.toNat)) ∧
  encodedAs 0x22000000 (fun w1 _ _ _ _ => .bldSa (BitVec.ofNat 8 w1.toNat)) ∧
  encodedAs 0x23000000 (fun w1 _ _ _ _ => .bldDa (BitVec.ofNat 8 w1.toNat)) ∧
  ∀ s : State,
    (∀ pgn : Pgn, exec (.bldPgn pgn) s =
      .next { s with bldPgn := pgn, bldPri := 6, bldSa := 0, bldDa := 0, response := some ⟨0, 0, 0, 0⟩ }) ∧
    (∀ p : Byte, exec (.bldPrio p) s =
      .next { s with bldPri := BitVec.ofNat 3 (min p.toNat 7), response := some ⟨0, 0, 0, 0⟩ }) ∧
    (∀ sa : Byte, exec (.bldSa sa) s = .next { s with bldSa := sa, response := some ⟨0, 0, 0, 0⟩ }) ∧
    (∀ da : Byte, exec (.bldDa da) s = .next { s with bldDa := da, response := some ⟨0, 0, 0, 0⟩ })

/-- R114: the packed identifier, the destination ORed into bits 15..8 only under PDU1; the registers keep their values. -/
def Obligations.BldBuildPacksTheIdentifier : Prop :=
  encodedAs 0x24000000 (fun _ _ _ _ _ => .bldBuild) ∧
  ∀ s : State,
    let t := s.bldPri.toNat * 2 ^ 26 + s.bldPgn.toNat * 2 ^ 8 + s.bldSa.toNat
    answers .bldBuild s
      ⟨0, BitVec.ofNat 32 (if t / 2 ^ 16 % 2 ^ 8 < 240 then t ||| s.bldDa.toNat * 2 ^ 8 else t), 0, 0⟩

/-- 40_identifier.md section 3, the builder's round-trip law (the spec marks its case analysis as derived): what the
accessors give back of an identifier built from a PGN, a priority of at most 7, a source and a
destination address, in the rule's four cases. -/
def Obligations.BuilderRoundTripsThroughAccessors : Prop :=
  ∀ (s : State) (pgn : Pgn) (p sa da : Byte), p.toNat ≤ 7 →
    ∃ t w, runAll (buildOps pgn p sa da) s = .next t ∧ t.response = some ⟨0, w, 0, 0⟩ ∧
      let id : Ident := BitVec.ofNat 29 w.toNat
      let pf := pgn.toNat / 2 ^ 8
      r0Of (.idPrio id) t = some (BitVec.ofNat 32 p.toNat) ∧
      r0Of (.idSa id) t = some (BitVec.ofNat 32 sa.toNat) ∧
      (pf % 2 ^ 8 < 240 → pgn.toNat % 2 ^ 8 = 0 →
        r0Of (.idPgn id) t = some (BitVec.ofNat 32 pgn.toNat) ∧
        r0Of (.idDa id) t = some (BitVec.ofNat 32 (2 ^ 8 + da.toNat))) ∧
      (240 ≤ pf % 2 ^ 8 →
        r0Of (.idPgn id) t = some (BitVec.ofNat 32 pgn.toNat) ∧
        r0Of (.idGe id) t = some (BitVec.ofNat 32 (2 ^ 8 + pgn.toNat % 2 ^ 8)) ∧
        r0Of (.idDa id) t = some 0) ∧
      (pf % 2 ^ 8 < 240 → pgn.toNat % 2 ^ 8 ≠ 0 →
        r0Of (.idPgn id) t = some (BitVec.ofNat 32 (pf * 2 ^ 8)) ∧
        r0Of (.idDa id) t = some (BitVec.ofNat 32 (2 ^ 8 + (pgn.toNat % 2 ^ 8 ||| da.toNat))))

/-- R120, R121: the three wire bytes of a PGN, packed with the first lowest, and the PGN of three wire bytes, bits 7..2 of
the last ignored. -/
def Obligations.PgnWireCodecConverts : Prop :=
  encodedAs 0x30000000 (fun w1 _ _ _ _ => .pgnToLe (BitVec.ofNat 18 w1.toNat)) ∧
  encodedAs 0x31000000 (fun w1 _ _ _ _ =>
    .pgnFromLe (BitVec.ofNat 8 w1.toNat) (BitVec.ofNat 8 (w1.toNat / 2 ^ 8)) (BitVec.ofNat 8 (w1.toNat / 2 ^ 16))) ∧
  ∀ s : State,
    (∀ p : Pgn, answers (.pgnToLe p) s
      ⟨0, BitVec.ofNat 32 (p.toNat % 2 ^ 8 + p.toNat / 2 ^ 8 % 2 ^ 8 * 2 ^ 8 + p.toNat / 2 ^ 16 * 2 ^ 16), 0, 0⟩) ∧
    (∀ b0 b1 b2 : Byte, answers (.pgnFromLe b0 b1 b2) s
      ⟨0, BitVec.ofNat 32 ((b0.toNat + b1.toNat * 2 ^ 8 + b2.toNat * 2 ^ 16) % 2 ^ 18), 0, 0⟩)

/-- 40_identifier.md section 4, the round-trip law of the PGN wire codec: the block that carries the bytes of a PGN is read
as that PGN, and the PGN of three bytes has these bytes but for bits 7..2 of the last. -/
def Obligations.PgnWireCodecRoundTrips : Prop :=
  ∀ (s : State) (w2 w3 w4 w5 : Word),
    (∀ p : Pgn, ∃ w i, r0Of (.pgnToLe p) s = some w ∧ decode ⟨0x31000000, w, w2, w3, w4, w5⟩ = .ok i ∧
      r0Of i s = some (BitVec.ofNat 32 p.toNat)) ∧
    (∀ b0 b1 b2 : Byte, ∃ w i, r0Of (.pgnFromLe b0 b1 b2) s = some w ∧
      decode ⟨0x30000000, w, w2, w3, w4, w5⟩ = .ok i ∧
      r0Of i s = some (BitVec.ofNat 32 (b0.toNat + b1.toNat * 2 ^ 8 + b2.toNat % 4 * 2 ^ 16)))

/-! ### Slot codec -/

/-- R147: SLOT.DEC for every raw type, raw word and descriptor: SLOT_DOMAIN for a descriptor that is not legal, None for
the sentinel, else the clamped value of two rounded operations. -/
def Obligations.SlotDecFollowsItsRule : Prop :=
  ∀ (t : RawType) (raw : Word) (d : SlotDesc) (s : State),
    let r := raw.toNat % 2 ^ t.bits
    let n : Int := if t.signed = true ∧ 2 ^ (t.bits - 1) ≤ r then (r : Int) - 2 ^ t.bits else r
    let x := f32Add (f32Mul (intToF32 n) (f32OfBits d.scale)) (f32OfBits d.offset)
    encodedAs (BitVec.ofNat 32 (0x40 * 2 ^ 24 + t.code * 2 ^ 16))
      (fun w1 w2 w3 w4 w5 => decInstr t w1 ⟨w2, w3, w4, w5⟩) ∧
    (¬ legalDescriptor d → failsWith (decInstr t raw d) s 9) ∧
    (legalDescriptor d → r = 2 ^ t.bits - 1 → answers (decInstr t raw d) s ⟨0, 0, 0, 0⟩) ∧
    (legalDescriptor d → r ≠ 2 ^ t.bits - 1 →
      answers (decInstr t raw d) s
        ⟨0, f32ToBits (f32Clamp x (f32OfBits d.lower) (f32OfBits d.upper)), 1, 0⟩)

/-- 41_slot.md section 2, corner case (a) of SLOT.DEC, an inference the spec marks as derived: a result that is Some is always
finite and within [lower, upper]. -/
def Obligations.SlotDecResultIsFiniteAndInRange : Prop :=
  ∀ (t : RawType) (raw : Word) (d : SlotDesc) (s : State),
    legalDescriptor d → raw.toNat % 2 ^ t.bits ≠ 2 ^ t.bits - 1 →
      ∃ y, answers (decInstr t raw d) s ⟨0, y, 1, 0⟩ ∧ finitePattern y ∧
        f32Lt (f32OfBits y) (f32OfBits d.lower) = false ∧ f32Lt (f32OfBits d.upper) (f32OfBits y) = false

/-- R148: SLOT.ENC for every raw type, optional value and descriptor: the descriptor is checked first, None gives the
sentinel, a NaN is SLOT_DOMAIN, else the raw pattern of the truncated and saturated quotient. -/
def Obligations.SlotEncFollowsItsRule : Prop :=
  ∀ (t : RawType) (w : Word) (d : SlotDesc) (s : State),
    let c := f32Clamp (f32OfBits w) (f32OfBits d.lower) (f32OfBits d.upper)
    let n := f32ToInt t.lo t.hi (f32Div (f32Sub c (f32OfBits d.offset)) (f32OfBits d.scale))
    encodedAs (BitVec.ofNat 32 (0x41 * 2 ^ 24 + t.code * 2 ^ 16))
      (fun _ w2 w3 w4 w5 => encInstr t none ⟨w2, w3, w4, w5⟩) ∧
    encodedAs (BitVec.ofNat 32 (0x41 * 2 ^ 24 + 2 ^ 23 + t.code * 2 ^ 16))
      (fun w1 w2 w3 w4 w5 => encInstr t (some w1) ⟨w2, w3, w4, w5⟩) ∧
    (¬ legalDescriptor d → failsWith (encInstr t none d) s 9 ∧ failsWith (encInstr t (some w) d) s 9) ∧
    (legalDescriptor d → answers (encInstr t none d) s ⟨0, BitVec.ofNat 32 (2 ^ t.bits - 1), 0, 0⟩) ∧
    (legalDescriptor d → nanPattern w → failsWith (encInstr t (some w) d) s 9) ∧
    (legalDescriptor d → ¬ nanPattern w →
      answers (encInstr t (some w) d) s ⟨0, BitVec.ofNat 32 (n % (2 ^ t.bits : Int)).toNat, 0, 0⟩)

/-- 41_slot.md section 1: rounding is to the nearest binary32 number, ties to the even significand; what lies at or above
the midpoint beyond the greatest finite number is an infinity, and a zero keeps its sign. The spec marks the rounding rule
"from general knowledge, not in source" (log entry 12). -/
def Obligations.RoundingIsToNearestEven : Prop :=
  (∀ (neg : Bool) (d : Nat), f32Round neg 0 d = .fin neg 0 (-149)) ∧
  ∀ (neg : Bool) (n d : Nat), 0 < n → 0 < d →
    let x : ℚ := (n : ℚ) / d
    (x < 2 ^ 128 - 2 ^ 103 → ∃ (m : Nat) (e : Int), f32Round neg n d = .fin neg m e ∧
      -149 ≤ e ∧ e ≤ 104 ∧ m < 2 ^ 24 ∧ (2 ^ 23 ≤ m ∨ e = -149) ∧
      |x - m * (2 : ℚ) ^ e| ≤ (2 : ℚ) ^ e / 2 ∧ (|x - m * (2 : ℚ) ^ e| = (2 : ℚ) ^ e / 2 → m % 2 = 0) ∧
      (m = 2 ^ 23 → -149 < e → m * (2 : ℚ) ^ e - x ≤ (2 : ℚ) ^ e / 4)) ∧
    (2 ^ 128 - 2 ^ 103 ≤ x → f32Round neg n d = .inf neg)

/-- 41_slot.md section 1: product, sum, difference and quotient of two numbers are their exact result, rounded once; an exact
sum of zero is negative only when both terms are; infinities, zero divisors and NaNs give what IEEE 754 gives. An integer
converts to its value rounded once, exactly up to magnitude 2^24. The spec marks the rounding "from general knowledge, not in
source" (log entry 12). -/
def Obligations.ArithmeticRoundsTheExactResultOnce : Prop :=
  (∀ (s t : Bool) (m n : Nat) (e f : Int), ∃ N D : Nat, 0 < D ∧
    (N : ℚ) / D = f32Rat false m e * f32Rat false n f ∧
    f32Mul (.fin s m e) (.fin t n f) = f32Round (s ^^ t) N D) ∧
  (∀ (s t : Bool) (m n : Nat) (e f : Int), let v := f32Rat s m e + f32Rat t n f
    (v = 0 → f32Add (.fin s m e) (.fin t n f) = .fin (s && t) 0 (-149)) ∧
    (v ≠ 0 → ∃ N D : Nat, 0 < D ∧ (N : ℚ) / D = |v| ∧
      f32Add (.fin s m e) (.fin t n f) = f32Round (v < 0) N D)) ∧
  (∀ (s t : Bool) (m n : Nat) (e f : Int), let v := f32Rat s m e - f32Rat t n f
    (v = 0 → f32Sub (.fin s m e) (.fin t n f) = .fin (s && !t) 0 (-149)) ∧
    (v ≠ 0 → ∃ N D : Nat, 0 < D ∧ (N : ℚ) / D = |v| ∧
      f32Sub (.fin s m e) (.fin t n f) = f32Round (v < 0) N D)) ∧
  (∀ (s t : Bool) (m n : Nat) (e f : Int), n ≠ 0 → ∃ N D : Nat, 0 < D ∧
    (N : ℚ) / D = f32Rat false m e / f32Rat false n f ∧
    f32Div (.fin s m e) (.fin t n f) = f32Round (s ^^ t) N D) ∧
  (∀ (s t : Bool) (m : Nat) (e f : Int),
    f32Div (.fin s m e) (.fin t 0 f) = if m = 0 then .nan else .inf (s ^^ t)) ∧
  (∀ (s t : Bool) (m : Nat) (e : Int),
    f32Mul (.inf s) (.fin t m e) = (if m = 0 then .nan else .inf (s ^^ t)) ∧
    f32Mul (.fin s m e) (.inf t) = (if m = 0 then .nan else .inf (s ^^ t)) ∧
    f32Add (.inf s) (.fin t m e) = .inf s ∧ f32Add (.fin s m e) (.inf t) = .inf t ∧
    f32Sub (.inf s) (.fin t m e) = .inf s ∧ f32Sub (.fin s m e) (.inf t) = .inf (!t) ∧
    f32Div (.inf s) (.fin t m e) = .inf (s ^^ t) ∧ f32Div (.fin s m e) (.inf t) = .fin (s ^^ t) 0 (-149)) ∧
  (∀ s t : Bool,
    f32Mul (.inf s) (.inf t) = .inf (s ^^ t) ∧ f32Div (.inf s) (.inf t) = .nan ∧
    f32Add (.inf s) (.inf t) = (if s = t then .inf s else .nan) ∧
    f32Sub (.inf s) (.inf t) = (if s = t then .nan else .inf s)) ∧
  (∀ a : F32, f32Mul .nan a = .nan ∧ f32Mul a .nan = .nan ∧ f32Add .nan a = .nan ∧ f32Add a .nan = .nan ∧
    f32Sub .nan a = .nan ∧ f32Sub a .nan = .nan ∧ f32Div .nan a = .nan ∧ f32Div a .nan = .nan) ∧
  (∀ n : Int, n.natAbs ≤ 2 ^ 24 → ∃ (m : Nat) (e : Int), intToF32 n = .fin (n < 0) m e ∧ f32Rat (n < 0) m e = n) ∧
  (∀ n : Int, n ≠ 0 → n.natAbs ≤ 2 ^ 32 → ∃ (m : Nat) (e : Int), intToF32 n = .fin (n < 0) m e ∧
    2 ^ 23 ≤ m ∧ m < 2 ^ 24 ∧ |(n.natAbs : ℚ) - m * (2 : ℚ) ^ e| ≤ (2 : ℚ) ^ e / 2 ∧
    (|(n.natAbs : ℚ) - m * (2 : ℚ) ^ e| = (2 : ℚ) ^ e / 2 → m % 2 = 0) ∧
    (m = 2 ^ 23 → m * (2 : ℚ) ^ e - n.natAbs ≤ (2 : ℚ) ^ e / 4))

/-- R144: the IEEE comparison, in which zeros of either sign are equal and a NaN is in no relation, and the clamp: lower
below lower, upper above upper, else the value itself with its sign of zero; infinities give the bound on their side. -/
def Obligations.ClampFollowsTheComparison : Prop :=
  (∀ (s t : Bool) (m n : Nat) (e f : Int),
    f32Lt (.fin s m e) (.fin t n f) = true ↔ f32Rat s m e < f32Rat t n f) ∧
  (∀ (s : Bool) (m : Nat) (e : Int), f32Lt (.fin s m e) (.inf false) = true ∧ f32Lt (.inf true) (.fin s m e) = true ∧
    f32Lt (.fin s m e) (.inf true) = false ∧ f32Lt (.inf false) (.fin s m e) = false) ∧
  (∀ s t : Bool, f32Lt (.inf s) (.inf t) = true ↔ s = true ∧ t = false) ∧
  (∀ a : F32, f32Lt .nan a = false ∧ f32Lt a .nan = false) ∧
  (∀ x lo hi : F32, (f32Lt x lo = true → f32Clamp x lo hi = lo) ∧
    (f32Lt x lo = false → f32Lt hi x = true → f32Clamp x lo hi = hi) ∧
    (f32Lt x lo = false → f32Lt hi x = false → f32Clamp x lo hi = x)) ∧
  (∀ (a b : Bool) (j k : Nat) (p q : Int), f32Rat a j p ≤ f32Rat b k q →
    f32Clamp (.inf true) (.fin a j p) (.fin b k q) = .fin a j p ∧
    f32Clamp (.inf false) (.fin a j p) (.fin b k q) = .fin b k q ∧
    ∀ (s : Bool) (m : Nat) (e : Int), let v := f32Rat s m e
      (v < f32Rat a j p → f32Clamp (.fin s m e) (.fin a j p) (.fin b k q) = .fin a j p) ∧
      (f32Rat b k q < v → f32Clamp (.fin s m e) (.fin a j p) (.fin b k q) = .fin b k q) ∧
      (f32Rat a j p ≤ v → v ≤ f32Rat b k q → f32Clamp (.fin s m e) (.fin a j p) (.fin b k q) = .fin s m e))

/-- 41_slot.md section 1: toward zero, then saturate at the bounds of the raw type, infinities included; the raw result is
the two's complement pattern. The spec marks the saturation "from general knowledge, not in source" (log entry 12). -/
def Obligations.FloatToIntTruncatesAndSaturates : Prop :=
  ∀ t : RawType,
    let lo : Int := if t.signed = true then -2 ^ (t.bits - 1) else 0
    let hi : Int := if t.signed = true then 2 ^ (t.bits - 1) - 1 else 2 ^ t.bits - 1
    (∀ (neg : Bool) (m : Nat) (e : Int), let v := f32Rat neg m e
      f32ToInt t.lo t.hi (.fin neg m e) = max lo (min hi (if v < 0 then ⌈v⌉ else ⌊v⌋))) ∧
    f32ToInt t.lo t.hi (.inf false) = hi ∧ f32ToInt t.lo t.hi (.inf true) = lo ∧
    ∀ n : Int, ((t.pattern n).toNat : Int) = n % 2 ^ t.bits

/-- 41_slot.md section 1: sign bit 31, exponent bits 30..23 with bias 127, fraction bits 22..0, subnormals kept; every
pattern that is no NaN is the pattern of the value it stands for. The spec marks the format "from general knowledge, not in
source" (log entry 12). -/
def Obligations.Binary32PatternsRoundTrip : Prop :=
  ∀ w : Word, let ex : Nat := w.toNat / 2 ^ 23 % 2 ^ 8; let fr : Nat := w.toNat % 2 ^ 23; let neg : Bool := decide (2 ^ 31 ≤ w.toNat)
    (ex = 255 → fr = 0 → f32OfBits w = .inf neg) ∧
    (ex = 255 → fr ≠ 0 → f32OfBits w = .nan) ∧
    (ex = 0 → f32OfBits w = .fin neg fr (-149)) ∧
    (ex ≠ 0 → ex ≠ 255 → f32OfBits w = .fin neg (2 ^ 23 + fr) ((ex : Int) - 150)) ∧
    (¬ nanPattern w → f32ToBits (f32OfBits w) = w)

/-! ### Payload fields -/

/-- R153: FLD.GET returns the little-endian value of the W bytes at offset k, or MALFORMED_INPUT when they do not fit in
the clamped length. -/
def Obligations.FldGetReadsLittleEndian : Prop :=
  ∀ (w : FieldWidth) (len : BitVec 4) (k pw0 pw1 : Word) (s : State),
    let pay := pw0.toNat + 2 ^ 32 * pw1.toNat
    (∀ sign : Bool, encodedAs (fieldHeader 0x48 w len sign) (fun w1 w2 w3 _ _ => getInstr w len w1 w2 w3)) ∧
    (min len.toNat 8 < k.toNat + w.bytes → failsWith (getInstr w len k pw0 pw1) s 1) ∧
    (k.toNat + w.bytes ≤ min len.toNat 8 →
      answers (getInstr w len k pw0 pw1) s
        ⟨0, BitVec.ofNat 32 (pay / 2 ^ (8 * k.toNat) % 2 ^ (8 * w.bytes)), 0, 0⟩)

/-- R154: FLD.PUT returns the payload with the W bytes at offset k replaced, all other positions as they came in. -/
def Obligations.FldPutWritesLittleEndian : Prop :=
  ∀ (w : FieldWidth) (len : BitVec 4) (k pw0 pw1 raw : Word) (s : State),
    (∀ sign : Bool, encodedAs (fieldHeader 0x49 w len sign) (fun w1 w2 w3 w4 _ => putInstr w len w1 w2 w3 w4)) ∧
    (min len.toNat 8 < k.toNat + w.bytes → failsWith (putInstr w len k pw0 pw1 raw) s 1) ∧
    (k.toNat + w.bytes ≤ min len.toNat 8 →
      ∃ r1 r2, answers (putInstr w len k pw0 pw1 raw) s ⟨0, 0, r1, r2⟩ ∧
        ∀ j < 8, payByte r1 r2 j =
          if k.toNat ≤ j ∧ j < k.toNat + w.bytes then raw.toNat / 2 ^ (8 * (j - k.toNat)) % 2 ^ 8
          else payByte pw0 pw1 j)

/-! ### Sender -/

/-- R171: TXB.WR is refused while a session exists, then beyond address 1784; else it writes the one byte, and every
other byte of TXBUF reads as before. -/
def Obligations.TxbWrWritesOneByteWhileIdle : Prop :=
  encodedAs 0x50000000 (fun w1 w2 _ _ _ => .txbWr w1 (BitVec.ofNat 8 w2.toNat)) ∧
  ∀ (a : Word) (v : Byte) (s : State),
    (s.txState ≠ .idle → failsWith (.txbWr a v) s 6) ∧
    (s.txState = .idle → 1784 < a.toNat → failsWith (.txbWr a v) s 7) ∧
    (s.txState = .idle → a.toNat ≤ 1784 →
      ∃ t, exec (.txbWr a v) s = .next t ∧
        t = { s with txBuf := t.txBuf, response := some ⟨0, 0, 0, 0⟩ } ∧
        t.readByte .txBuf a.toNat = some v ∧
        ∀ b, b ≠ a.toNat → t.readByte .txBuf b = s.readByte .txBuf b)

/-- R172: TXS.OPEN refuses a length above 1785 and else opens a session in every state, TX.idx not written. -/
def Obligations.TxsOpenConstructsASession : Prop :=
  encodedAs 0x51000000 (fun w1 w2 w3 _ _ => .txsOpen (BitVec.ofNat 8 w1.toNat) (BitVec.ofNat 18 w2.toNat) w3) ∧
  ∀ (sa : Byte) (pgn : Pgn) (len : Word) (s : State),
    (1785 < len.toNat → failsWith (.txsOpen sa pgn len) s 8) ∧
    (len.toNat ≤ 1785 → exec (.txsOpen sa pgn len) s =
      .next { s with txSa := sa, txPgn := pgn, txTotal := BitVec.ofNat 11 len.toNat,
                     txState := .connectionManagement, response := some ⟨0, 0, 0, 0⟩ })

/-- R173: TXS.COUNT is the total divided by 7, rounded up, when there is a session. -/
def Obligations.TxsCountIsTheCeiling : Prop :=
  encodedAs 0x52000000 (fun _ _ _ _ _ => .txsCount) ∧
  ∀ s : State,
    (s.txState = .idle → failsWith .txsCount s 4) ∧
    (s.txState ≠ .idle → ∃ n : Nat, s.txTotal.toNat ≤ 7 * n ∧ 7 * n < s.txTotal.toNat + 7 ∧
      answers .txsCount s ⟨0, BitVec.ofNat 32 n, 0, 0⟩)

/-- R175: the first TXS.NEXT of a session returns the BAM frame, of length 8, and enters DataTransfer with index 0. -/
def Obligations.FirstTxsNextEmitsTheBamFrame : Prop :=
  ∀ s : State, s.txState = .connectionManagement → s.txTotal.toNat ≤ 1785 →
    ∃ r1 r2, exec .txsNext s =
        .next { s with txState := .dataTransfer, txIdx := 0,
                       response := some ⟨0x800, BitVec.ofNat 32 (s.params.tpPriority.toNat * 2 ^ 26 + 0x0EC00 * 2 ^ 8 +
                         s.params.tpDa.toNat * 2 ^ 8 + s.txSa.toNat), r1, r2⟩ } ∧
      payByte r1 r2 0 = 0x20 ∧ payByte r1 r2 1 = s.txTotal.toNat % 2 ^ 8 ∧ payByte r1 r2 2 = s.txTotal.toNat / 2 ^ 8 ∧
      payByte r1 r2 3 = (s.txTotal.toNat + 6) / 7 ∧ payByte r1 r2 4 = 0xFF ∧ payByte r1 r2 5 = s.txPgn.toNat % 2 ^ 8 ∧
      payByte r1 r2 6 = s.txPgn.toNat / 2 ^ 8 % 2 ^ 8 ∧ payByte r1 r2 7 = s.txPgn.toNat / 2 ^ 16

/-- R176: a further TXS.NEXT returns DataTransfer frame TX.idx + 1, of length 8: sequence number, the bytes of TXBUF from
7·TX.idx on that lie below the total, 0xFF beyond; the index advances. -/
def Obligations.TxsNextEmitsTheNextDataFrame : Prop :=
  ∀ s : State, s.txState = .dataTransfer → s.txTotal.toNat ≤ 1785 → s.txIdx.toNat < (s.txTotal.toNat + 6) / 7 →
    ∃ r1 r2, exec .txsNext s =
        .next { s with txIdx := s.txIdx + 1,
                       response := some ⟨0x800, BitVec.ofNat 32 (s.params.tpPriority.toNat * 2 ^ 26 + 0x0EB00 * 2 ^ 8 +
                         s.params.tpDa.toNat * 2 ^ 8 + s.txSa.toNat), r1, r2⟩ } ∧
      payByte r1 r2 0 = s.txIdx.toNat + 1 ∧
      ∀ i < 7, payByte r1 r2 (i + 1) =
        if 7 * s.txIdx.toNat + i < s.txTotal.toNat then (s.byteAt .txBuf (7 * s.txIdx.toNat + i)).toNat else 0xFF

/-- R253 under log entry 4 (the model's choice of a free value): a TXBUF byte reads as the byte last written there, and one
never written since the latest reset as a free value, of which nothing is known. -/
def Obligations.UnwrittenPayloadBytesAreFree : Prop :=
  ∀ (s : State) (a : Nat),
    (∀ v, s.readByte .txBuf a = some v → s.byteAt .txBuf a = v) ∧
    (s.readByte .txBuf a = none → s.byteAt .txBuf a = Config.freeTxByte s.txEpoch a)

/-- R174 and R177: what TXS.NEXT does in each state, all its cases: NO_SESSION in state Idle; in ConnectionManagement a frame
of length 8 that is the BAM frame (first byte 0x20); in DataTransfer, while TX.idx is below the count (and TX.total at most
1785, as the invariant has it), a frame of length 8 that is frame TX.idx + 1; and EXHAUSTED with no effect otherwise. The
whole frames are R175 and R176, stated above. -/
def Obligations.TxsNextFollowsTheState : Prop :=
  encodedAs 0x53000000 (fun _ _ _ _ _ => .txsNext) ∧
  ∀ s : State, let count := (s.txTotal.toNat + 6) / 7
    (s.txState = .idle → failsWith .txsNext s 4) ∧
    (s.txState = .connectionManagement → ∃ id pw0 pw1 : Word, exec .txsNext s =
      .next { s with txState := .dataTransfer, txIdx := 0, response := some ⟨0x800, id, pw0, pw1⟩ } ∧
      payByte pw0 pw1 0 = 0x20 ∧ id.toNat / 2 ^ 16 % 2 ^ 10 = 0xEC) ∧
    (s.txState = .dataTransfer → s.txTotal.toNat ≤ 1785 → s.txIdx.toNat < count → ∃ id pw0 pw1 : Word, exec .txsNext s =
      .next { s with txIdx := s.txIdx + 1, response := some ⟨0x800, id, pw0, pw1⟩ } ∧
      payByte pw0 pw1 0 = s.txIdx.toNat + 1 ∧ id.toNat / 2 ^ 16 % 2 ^ 10 = 0xEB) ∧
    (s.txState = .dataTransfer → count ≤ s.txIdx.toNat → failsWith .txsNext s 5)

/-- R178, R200: closing a session makes its bank Idle, in every state, and writes nothing else. -/
def Obligations.CloseMakesTheBankIdle : Prop :=
  encodedAs 0x54000000 (fun _ _ _ _ _ => .txsClose) ∧
  encodedAs 0x66000000 (fun _ _ _ _ _ => .rxsClose) ∧
  ∀ s : State,
    exec .txsClose s = .next { s with txState := .idle, response := some ⟨0, 0, 0, 0⟩ } ∧
    exec .rxsClose s = .next { s with rxState := .idle, response := some ⟨0, 0, 0, 0⟩ }

/-- 42_transport_sender.md, what the sender emits for a payload (an inference the spec marks as derived): a session opened
over a payload yields the BAM frame, then DataTransfer frames 1 to ceil(L/7), all of length 8 and from the session's source
address, and EXHAUSTED ever after. -/
def Obligations.SenderEmitsTheWholeTransfer : Prop :=
  ∀ (s : State) (sa : Byte) (pgn : Pgn) (len : Word), len.toNat ≤ 1785 →
    let L := len.toNat
    let d := (List.range L).map (s.byteAt .txBuf)
    ∀ j : Nat, ∃ t r, runAll (.txsOpen sa pgn len :: List.replicate (j + 1) .txsNext) s = .next t ∧ t.response = some r ∧
      ((L + 6) / 7 < j → r = ⟨5, 0, 0, 0⟩) ∧
      (j ≤ (L + 6) / 7 → r.s = 0x800 ∧
        r.r0 = (transportId s.params.tpPriority (if j = 0 then 0x0EC00 else 0x0EB00) s.params.tpDa sa).setWidth 32 ∧
        r.r1 = frameWord0 (if j = 0 then bamBytes L pgn else dtBytes d j) ∧
        r.r2 = frameWord1 (if j = 0 then bamBytes L pgn else dtBytes d j))

/-! ### Receiver -/

/-- R192: RXS.FEED of a ConnectionManagement frame: the three refusals in their order, and the session an accepted BAM
frame opens, with RX_FILL in every byte of RXBUF. -/
def Obligations.FedBamFrameOpensASession : Prop :=
  ∀ (len : BitVec 4) (id : Ident) (pw0 pw1 : Word) (s : State), id.toNat / 2 ^ 16 % 2 ^ 10 = 0xEC →
    let total := payByte pw0 pw1 1 + 2 ^ 8 * payByte pw0 pw1 2
    (min len.toNat 8 < 8 → failsWith (.rxsFeed len id pw0 pw1) s 1) ∧
    (8 ≤ len.toNat → payByte pw0 pw1 0 ≠ 0x20 → failsWith (.rxsFeed len id pw0 pw1) s 2) ∧
    (8 ≤ len.toNat → payByte pw0 pw1 0 = 0x20 → 1785 < total → failsWith (.rxsFeed len id pw0 pw1) s 2) ∧
    (8 ≤ len.toNat → payByte pw0 pw1 0 = 0x20 → total ≤ 1785 →
      ∃ t, exec (.rxsFeed len id pw0 pw1) s = .next t ∧
        t = { s with
              rxSa := BitVec.ofNat 8 id.toNat,
              rxPgn := BitVec.ofNat 18
                (payByte pw0 pw1 5 + 2 ^ 8 * payByte pw0 pw1 6 + 2 ^ 16 * payByte pw0 pw1 7),
              rxTotal := BitVec.ofNat 11 total, rxLen := 0, rxBuf := t.rxBuf, rxState := .dataTransfer,
              response := some ⟨0, 0, 0, 0⟩ } ∧
        ∀ a, t.readByte .rxBuf a = some s.params.rxFill)

/-- R193: RXS.FEED of a DataTransfer frame: the three refusals in their order; an accepted frame writes its chunk at
(sequence-1)·7 up to the declared length and assigns the visible length. -/
def Obligations.FedDataFrameStoresItsChunk : Prop :=
  ∀ (len : BitVec 4) (id : Ident) (pw0 pw1 : Word) (s : State), id.toNat / 2 ^ 16 % 2 ^ 10 = 0xEB →
    let n := min len.toNat 8
    let off := (payByte pw0 pw1 0 - 1) * 7
    (n < 1 → failsWith (.rxsFeed len id pw0 pw1) s 1) ∧
    (1 ≤ n → s.rxState = .idle → failsWith (.rxsFeed len id pw0 pw1) s 2) ∧
    (1 ≤ n → s.rxState = .dataTransfer → payByte pw0 pw1 0 = 0 → failsWith (.rxsFeed len id pw0 pw1) s 2) ∧
    (1 ≤ n → s.rxState = .dataTransfer → payByte pw0 pw1 0 ≠ 0 →
      ∃ t, exec (.rxsFeed len id pw0 pw1) s = .next t ∧
        t = { s with rxBuf := t.rxBuf, rxLen := BitVec.ofNat 11 (min s.rxTotal.toNat (off + (n - 1))),
                     response := some ⟨0, 0, 0, 0⟩ } ∧
        ∀ a, t.readByte .rxBuf a =
          if off ≤ a ∧ a < off + (n - 1) ∧ a < s.rxTotal.toNat then some (BitVec.ofNat 8 (payByte pw0 pw1 (a - off + 1)))
          else s.readByte .rxBuf a)

/-- R194: a frame whose 18-bit PGN is neither transport PGN is answered NOT_TRANSPORT, with no state change; and which
blocks are RXS.FEED. -/
def Obligations.OtherFramesAreNotTransport : Prop :=
  (∀ len : BitVec 4, encodedAs (BitVec.ofNat 32 (0x60 * 2 ^ 24 + len.toNat * 2 ^ 16))
    (fun w1 w2 w3 _ _ => .rxsFeed len (BitVec.ofNat 29 w1.toNat) w2 w3)) ∧
  ∀ (len : BitVec 4) (id : Ident) (pw0 pw1 : Word) (s : State),
    id.toNat / 2 ^ 16 % 2 ^ 10 ≠ 0xEC → id.toNat / 2 ^ 16 % 2 ^ 10 ≠ 0xEB → failsWith (.rxsFeed len id pw0 pw1) s 0x0A

/-- R195 to R198: the four session queries return the register, or NO_SESSION when the bank is Idle. -/
def Obligations.ReceiverQueriesReturnTheirRegister : Prop :=
  encodedAs 0x61000000 (fun _ _ _ _ _ => .rxsLen) ∧
  encodedAs 0x62000000 (fun _ _ _ _ _ => .rxsTotal) ∧
  encodedAs 0x63000000 (fun _ _ _ _ _ => .rxsPgn) ∧
  encodedAs 0x64000000 (fun _ _ _ _ _ => .rxsSa) ∧
  ∀ s : State,
    (s.rxState = .idle → failsWith .rxsLen s 4 ∧ failsWith .rxsTotal s 4 ∧ failsWith .rxsPgn s 4 ∧
      failsWith .rxsSa s 4) ∧
    (s.rxState = .dataTransfer →
      answers .rxsLen s ⟨0, BitVec.ofNat 32 s.rxLen.toNat, 0, 0⟩ ∧
      answers .rxsTotal s ⟨0, BitVec.ofNat 32 s.rxTotal.toNat, 0, 0⟩ ∧
      answers .rxsPgn s ⟨0, BitVec.ofNat 32 s.rxPgn.toNat, 0, 0⟩ ∧
      answers .rxsSa s ⟨0, BitVec.ofNat 32 s.rxSa.toNat, 0, 0⟩)

/-- R199: RXB.RD returns the byte at an address below RX.len, BAD_ADDRESS at any other, NO_SESSION when the bank is Idle;
in a state whose RX.len is above 1785, which no run reaches, an address without storage is BAD_ADDRESS too (R43). -/
def Obligations.RxbRdReadsBelowTheLength : Prop :=
  encodedAs 0x65000000 (fun w1 _ _ _ _ => .rxbRd w1) ∧
  ∀ (a : Word) (s : State),
    (s.rxState = .idle → failsWith (.rxbRd a) s 4) ∧
    (s.rxState = .dataTransfer → min s.rxLen.toNat 1785 ≤ a.toNat → failsWith (.rxbRd a) s 7) ∧
    (s.rxState = .dataTransfer → a.toNat < min s.rxLen.toNat 1785 → ∃ v : Byte, s.readByte .rxBuf a.toNat = some v ∧
      answers (.rxbRd a) s ⟨0, BitVec.ofNat 32 v.toNat, 0, 0⟩)

/-- 43_transport_receiver.md, transport round trip (an inference the spec marks as derived): the frames of a transfer, fed
in order to a receiver in any state, are all accepted and leave the payload. -/
def Obligations.FedTransferIsReassembled : Prop :=
  ∀ (s : State) (prio : BitVec 3) (da sa : Byte) (pgn : Pgn) (d : List Byte), d.length ≤ 1785 →
    (∀ k < (feedTransfer prio da sa pgn d).length, ∃ t,
      runAll ((feedTransfer prio da sa pgn d).take (k + 1)) s = .next t ∧ t.response = some ⟨0, 0, 0, 0⟩) ∧
    ∃ t, runAll (feedTransfer prio da sa pgn d) s = .next t ∧ t.rxState = .dataTransfer ∧ t.rxSa = sa ∧ t.rxPgn = pgn ∧
      t.rxTotal.toNat = d.length ∧ t.rxLen.toNat = d.length ∧
      ∀ a, ∀ h : a < d.length, t.readByte .rxBuf a = some d[a]

/-- 30_encoding.md section A4 under log entry 10 (the model's choice): the TP.CM.BAM and TP.DT rows are received frames of
length 8. -/
def Obligations.WireFrameRowsAreReceivedFrames : Prop :=
  (∀ (id : Ident) (total : BitVec 16) (count : Byte) (pgn : Pgn) (s : State),
    (Instr.tpCmBam id total count pgn).wellFormed = true → total.toNat ≤ 1785 →
      ∃ t, exec (.tpCmBam id total count pgn) s = .next t ∧
        t = { s with rxSa := BitVec.ofNat 8 id.toNat, rxPgn := pgn, rxTotal := BitVec.ofNat 11 total.toNat, rxLen := 0,
                     rxBuf := t.rxBuf, rxState := .dataTransfer, response := some ⟨0, 0, 0, 0⟩ } ∧
        ∀ a, t.readByte .rxBuf a = some s.params.rxFill) ∧
  (∀ (id : Ident) (sq : Byte) (data : BitVec 56) (s : State),
    (Instr.tpDt id sq data).wellFormed = true → sq ≠ 0 → s.rxState = .dataTransfer →
      ∃ t, exec (.tpDt id sq data) s = .next t ∧
        t = { s with rxBuf := t.rxBuf,
                     rxLen := BitVec.ofNat 11 (min s.rxTotal.toNat ((sq.toNat - 1) * 7 + 7)),
                     response := some ⟨0, 0, 0, 0⟩ } ∧
        ∀ a, t.readByte .rxBuf a =
          if (sq.toNat - 1) * 7 ≤ a ∧ a < (sq.toNat - 1) * 7 + 7 ∧ a < s.rxTotal.toNat then
            some (BitVec.ofNat 8 (data.toNat / 2 ^ (8 * (a - (sq.toNat - 1) * 7))))
          else s.readByte .rxBuf a)

/-! ### The whole machine -/

/-- R226: an operation that ends with a status other than OK changes nothing but the response, which holds the status
and zeros. -/
def Obligations.ErrorsLeaveNoTrace : Prop :=
  ∀ (i : Instr) (s t : State) (r : Response), exec i s = .next t → t.response = some r → r.s.toNat % 2 ^ 8 ≠ 0 →
    t = { s with response := some r } ∧ r.s.toNat < 2 ^ 8 ∧ r.r0 = 0 ∧ r.r1 = 0 ∧ r.r2 = 0

/-- R227: after a failed operation the next one does exactly what it would have done without it. -/
def Obligations.FailedOperationIsForgotten : Prop :=
  ∀ (i j : Instr) (s t : State) (r : Response), exec i s = .next t → t.response = some r → r.s.toNat % 2 ^ 8 ≠ 0 →
    exec j t = exec j s

/-- 60_exceptions.md, totality (an inference the spec marks as derived): from every state with the invariant, every command
block gets exactly one response, with one of the eleven statuses, and no step ends in a fault or a refusal. -/
def Obligations.EveryCommandBlockIsAnswered : Prop :=
  ∀ s : State, s.inv →
    (∃ t, step s = .next t) ∧
    ∀ (c : Command) (rest : List Input), s.inputs = .command c :: rest →
      ∃ t r, step s = .next t ∧ t.inputs = rest ∧ t.response = some r ∧ r.s.toNat % 2 ^ 8 ≤ 0x0A

/-- 10_state.md section 10: the ID, PGN, SLOT and FLD operations read and write no state: one response, the same in every
state, and nothing else changes. -/
def Obligations.StatelessOperationsReadAndWriteNothing : Prop :=
  ∀ i : Instr, i.unit = .stateless → ∃ r, ∀ s, answers i s r

/-- 10_state.md section 10: an operation writes only the registers and the buffer of its own bank, and no operation and no
reset changes the instance's parameters. -/
def Obligations.OperationsWriteOnlyTheirBank : Prop :=
  (∀ (i : Instr) (s t : State), exec i s = .next t →
    (i.unit = .builder → t = { s with bldPgn := t.bldPgn, bldPri := t.bldPri, bldSa := t.bldSa, bldDa := t.bldDa,
                                      response := t.response }) ∧
    (i.unit = .sender → t = { s with txState := t.txState, txSa := t.txSa, txPgn := t.txPgn, txTotal := t.txTotal,
                                     txIdx := t.txIdx, txBuf := t.txBuf, response := t.response }) ∧
    (i.unit = .receiver → t = { s with rxState := t.rxState, rxSa := t.rxSa, rxPgn := t.rxPgn, rxTotal := t.rxTotal,
                                       rxLen := t.rxLen, rxBuf := t.rxBuf, response := t.response })) ∧
  (∀ s t : State, step s = .next t → t.params = s.params)

/-- 10_state.md section 10: no operation of a bank reads another bank: in two states that agree on its bank, and on what of
the instance's parameters and free values it uses, it does the same: the same stop, or one response and next states that
agree on the bank. -/
def Obligations.BanksDoNotReadEachOther : Prop :=
  ∀ (i : Instr) (s u : State),
    (i.unit = .builder → sameBuilder s u → outcomesAgree sameBuilder (exec i s) (exec i u)) ∧
    (i.unit = .sender → s.params = u.params → s.txEpoch = u.txEpoch → sameSender s u →
      outcomesAgree sameSender (exec i s) (exec i u)) ∧
    (i.unit = .receiver → s.params = u.params → sameReceiver s u →
      outcomesAgree sameReceiver (exec i s) (exec i u))

/-- 20_memory.md section 1, the address map, with the refusals of 42_transport_sender.md and 43_transport_receiver.md: no
address above 1784 has storage, the whole word being the address. TXB.WR of one is BAD_ADDRESS (BUSY in a session) and RXB.RD
of one is BAD_ADDRESS (NO_SESSION without a session), in every state; in a state with the invariant no cell listed in either
buffer has such an address, so that it reads as the model has an unlisted address read: no stated value in TXBUF, RX_FILL in
RXBUF (the model's choice, log entries 4 and 6). -/
def Obligations.AddressesAbove1784HaveNoStorage : Prop :=
  (∀ (a : Word) (v : Byte) (s : State), 1784 < a.toNat →
    (s.txState = .idle → failsWith (.txbWr a v) s 7) ∧ (s.txState ≠ .idle → failsWith (.txbWr a v) s 6) ∧
    (s.rxState = .dataTransfer → failsWith (.rxbRd a) s 7) ∧ (s.rxState = .idle → failsWith (.rxbRd a) s 4)) ∧
  ∀ s : State, s.inv →
    (∀ c ∈ s.txBuf, c.1 ≤ 1784) ∧ (∀ c ∈ s.rxBuf, c.1 ≤ 1784) ∧
    ∀ a : Nat, 1784 < a → s.readByte .txBuf a = none ∧ s.readByte .rxBuf a = some s.params.rxFill
end

