-- ==== Sys2Proof/Laws/State.lean ====
section
/-! SUPPORT. One lemma per field per update of the state, each by definition, so that no proof unfolds a record update; and
what each update does to the reading of a buffer through the fields it keeps. -/

namespace Sys2Proof.Machine

variable (s : State)

/-! ### setBuilder -/

@[simp] theorem State.setBuilder_bldPgn (pgn : Pgn) (pri : BitVec 3) (sa da : Byte) : (s.setBuilder pgn pri sa da).bldPgn = pgn := rfl
@[simp] theorem State.setBuilder_bldPri (pgn : Pgn) (pri : BitVec 3) (sa da : Byte) : (s.setBuilder pgn pri sa da).bldPri = pri := rfl
@[simp] theorem State.setBuilder_bldSa (pgn : Pgn) (pri : BitVec 3) (sa da : Byte) : (s.setBuilder pgn pri sa da).bldSa = sa := rfl
@[simp] theorem State.setBuilder_bldDa (pgn : Pgn) (pri : BitVec 3) (sa da : Byte) : (s.setBuilder pgn pri sa da).bldDa = da := rfl
@[simp] theorem State.setBuilder_txState (pgn : Pgn) (pri : BitVec 3) (sa da : Byte) : (s.setBuilder pgn pri sa da).txState = s.txState := rfl
@[simp] theorem State.setBuilder_txSa (pgn : Pgn) (pri : BitVec 3) (sa da : Byte) : (s.setBuilder pgn pri sa da).txSa = s.txSa := rfl
@[simp] theorem State.setBuilder_txPgn (pgn : Pgn) (pri : BitVec 3) (sa da : Byte) : (s.setBuilder pgn pri sa da).txPgn = s.txPgn := rfl
@[simp] theorem State.setBuilder_txTotal (pgn : Pgn) (pri : BitVec 3) (sa da : Byte) : (s.setBuilder pgn pri sa da).txTotal = s.txTotal := rfl
@[simp] theorem State.setBuilder_txIdx (pgn : Pgn) (pri : BitVec 3) (sa da : Byte) : (s.setBuilder pgn pri sa da).txIdx = s.txIdx := rfl
@[simp] theorem State.setBuilder_txBuf (pgn : Pgn) (pri : BitVec 3) (sa da : Byte) : (s.setBuilder pgn pri sa da).txBuf = s.txBuf := rfl
@[simp] theorem State.setBuilder_rxState (pgn : Pgn) (pri : BitVec 3) (sa da : Byte) : (s.setBuilder pgn pri sa da).rxState = s.rxState := rfl
@[simp] theorem State.setBuilder_rxSa (pgn : Pgn) (pri : BitVec 3) (sa da : Byte) : (s.setBuilder pgn pri sa da).rxSa = s.rxSa := rfl
@[simp] theorem State.setBuilder_rxPgn (pgn : Pgn) (pri : BitVec 3) (sa da : Byte) : (s.setBuilder pgn pri sa da).rxPgn = s.rxPgn := rfl
@[simp] theorem State.setBuilder_rxTotal (pgn : Pgn) (pri : BitVec 3) (sa da : Byte) : (s.setBuilder pgn pri sa da).rxTotal = s.rxTotal := rfl
@[simp] theorem State.setBuilder_rxLen (pgn : Pgn) (pri : BitVec 3) (sa da : Byte) : (s.setBuilder pgn pri sa da).rxLen = s.rxLen := rfl
@[simp] theorem State.setBuilder_rxBuf (pgn : Pgn) (pri : BitVec 3) (sa da : Byte) : (s.setBuilder pgn pri sa da).rxBuf = s.rxBuf := rfl
@[simp] theorem State.setBuilder_params (pgn : Pgn) (pri : BitVec 3) (sa da : Byte) : (s.setBuilder pgn pri sa da).params = s.params := rfl
@[simp] theorem State.setBuilder_txEpoch (pgn : Pgn) (pri : BitVec 3) (sa da : Byte) : (s.setBuilder pgn pri sa da).txEpoch = s.txEpoch := rfl
@[simp] theorem State.setBuilder_inputs (pgn : Pgn) (pri : BitVec 3) (sa da : Byte) : (s.setBuilder pgn pri sa da).inputs = s.inputs := rfl
@[simp] theorem State.setBuilder_response (pgn : Pgn) (pri : BitVec 3) (sa da : Byte) : (s.setBuilder pgn pri sa da).response = s.response := rfl

/-! ### setBldPri -/

@[simp] theorem State.setBldPri_bldPgn (pri : BitVec 3) : (s.setBldPri pri).bldPgn = s.bldPgn := rfl
@[simp] theorem State.setBldPri_bldPri (pri : BitVec 3) : (s.setBldPri pri).bldPri = pri := rfl
@[simp] theorem State.setBldPri_bldSa (pri : BitVec 3) : (s.setBldPri pri).bldSa = s.bldSa := rfl
@[simp] theorem State.setBldPri_bldDa (pri : BitVec 3) : (s.setBldPri pri).bldDa = s.bldDa := rfl
@[simp] theorem State.setBldPri_txState (pri : BitVec 3) : (s.setBldPri pri).txState = s.txState := rfl
@[simp] theorem State.setBldPri_txSa (pri : BitVec 3) : (s.setBldPri pri).txSa = s.txSa := rfl
@[simp] theorem State.setBldPri_txPgn (pri : BitVec 3) : (s.setBldPri pri).txPgn = s.txPgn := rfl
@[simp] theorem State.setBldPri_txTotal (pri : BitVec 3) : (s.setBldPri pri).txTotal = s.txTotal := rfl
@[simp] theorem State.setBldPri_txIdx (pri : BitVec 3) : (s.setBldPri pri).txIdx = s.txIdx := rfl
@[simp] theorem State.setBldPri_txBuf (pri : BitVec 3) : (s.setBldPri pri).txBuf = s.txBuf := rfl
@[simp] theorem State.setBldPri_rxState (pri : BitVec 3) : (s.setBldPri pri).rxState = s.rxState := rfl
@[simp] theorem State.setBldPri_rxSa (pri : BitVec 3) : (s.setBldPri pri).rxSa = s.rxSa := rfl
@[simp] theorem State.setBldPri_rxPgn (pri : BitVec 3) : (s.setBldPri pri).rxPgn = s.rxPgn := rfl
@[simp] theorem State.setBldPri_rxTotal (pri : BitVec 3) : (s.setBldPri pri).rxTotal = s.rxTotal := rfl
@[simp] theorem State.setBldPri_rxLen (pri : BitVec 3) : (s.setBldPri pri).rxLen = s.rxLen := rfl
@[simp] theorem State.setBldPri_rxBuf (pri : BitVec 3) : (s.setBldPri pri).rxBuf = s.rxBuf := rfl
@[simp] theorem State.setBldPri_params (pri : BitVec 3) : (s.setBldPri pri).params = s.params := rfl
@[simp] theorem State.setBldPri_txEpoch (pri : BitVec 3) : (s.setBldPri pri).txEpoch = s.txEpoch := rfl
@[simp] theorem State.setBldPri_inputs (pri : BitVec 3) : (s.setBldPri pri).inputs = s.inputs := rfl
@[simp] theorem State.setBldPri_response (pri : BitVec 3) : (s.setBldPri pri).response = s.response := rfl

/-! ### setBldSa -/

@[simp] theorem State.setBldSa_bldPgn (sa : Byte) : (s.setBldSa sa).bldPgn = s.bldPgn := rfl
@[simp] theorem State.setBldSa_bldPri (sa : Byte) : (s.setBldSa sa).bldPri = s.bldPri := rfl
@[simp] theorem State.setBldSa_bldSa (sa : Byte) : (s.setBldSa sa).bldSa = sa := rfl
@[simp] theorem State.setBldSa_bldDa (sa : Byte) : (s.setBldSa sa).bldDa = s.bldDa := rfl
@[simp] theorem State.setBldSa_txState (sa : Byte) : (s.setBldSa sa).txState = s.txState := rfl
@[simp] theorem State.setBldSa_txSa (sa : Byte) : (s.setBldSa sa).txSa = s.txSa := rfl
@[simp] theorem State.setBldSa_txPgn (sa : Byte) : (s.setBldSa sa).txPgn = s.txPgn := rfl
@[simp] theorem State.setBldSa_txTotal (sa : Byte) : (s.setBldSa sa).txTotal = s.txTotal := rfl
@[simp] theorem State.setBldSa_txIdx (sa : Byte) : (s.setBldSa sa).txIdx = s.txIdx := rfl
@[simp] theorem State.setBldSa_txBuf (sa : Byte) : (s.setBldSa sa).txBuf = s.txBuf := rfl
@[simp] theorem State.setBldSa_rxState (sa : Byte) : (s.setBldSa sa).rxState = s.rxState := rfl
@[simp] theorem State.setBldSa_rxSa (sa : Byte) : (s.setBldSa sa).rxSa = s.rxSa := rfl
@[simp] theorem State.setBldSa_rxPgn (sa : Byte) : (s.setBldSa sa).rxPgn = s.rxPgn := rfl
@[simp] theorem State.setBldSa_rxTotal (sa : Byte) : (s.setBldSa sa).rxTotal = s.rxTotal := rfl
@[simp] theorem State.setBldSa_rxLen (sa : Byte) : (s.setBldSa sa).rxLen = s.rxLen := rfl
@[simp] theorem State.setBldSa_rxBuf (sa : Byte) : (s.setBldSa sa).rxBuf = s.rxBuf := rfl
@[simp] theorem State.setBldSa_params (sa : Byte) : (s.setBldSa sa).params = s.params := rfl
@[simp] theorem State.setBldSa_txEpoch (sa : Byte) : (s.setBldSa sa).txEpoch = s.txEpoch := rfl
@[simp] theorem State.setBldSa_inputs (sa : Byte) : (s.setBldSa sa).inputs = s.inputs := rfl
@[simp] theorem State.setBldSa_response (sa : Byte) : (s.setBldSa sa).response = s.response := rfl

/-! ### setBldDa -/

@[simp] theorem State.setBldDa_bldPgn (da : Byte) : (s.setBldDa da).bldPgn = s.bldPgn := rfl
@[simp] theorem State.setBldDa_bldPri (da : Byte) : (s.setBldDa da).bldPri = s.bldPri := rfl
@[simp] theorem State.setBldDa_bldSa (da : Byte) : (s.setBldDa da).bldSa = s.bldSa := rfl
@[simp] theorem State.setBldDa_bldDa (da : Byte) : (s.setBldDa da).bldDa = da := rfl
@[simp] theorem State.setBldDa_txState (da : Byte) : (s.setBldDa da).txState = s.txState := rfl
@[simp] theorem State.setBldDa_txSa (da : Byte) : (s.setBldDa da).txSa = s.txSa := rfl
@[simp] theorem State.setBldDa_txPgn (da : Byte) : (s.setBldDa da).txPgn = s.txPgn := rfl
@[simp] theorem State.setBldDa_txTotal (da : Byte) : (s.setBldDa da).txTotal = s.txTotal := rfl
@[simp] theorem State.setBldDa_txIdx (da : Byte) : (s.setBldDa da).txIdx = s.txIdx := rfl
@[simp] theorem State.setBldDa_txBuf (da : Byte) : (s.setBldDa da).txBuf = s.txBuf := rfl
@[simp] theorem State.setBldDa_rxState (da : Byte) : (s.setBldDa da).rxState = s.rxState := rfl
@[simp] theorem State.setBldDa_rxSa (da : Byte) : (s.setBldDa da).rxSa = s.rxSa := rfl
@[simp] theorem State.setBldDa_rxPgn (da : Byte) : (s.setBldDa da).rxPgn = s.rxPgn := rfl
@[simp] theorem State.setBldDa_rxTotal (da : Byte) : (s.setBldDa da).rxTotal = s.rxTotal := rfl
@[simp] theorem State.setBldDa_rxLen (da : Byte) : (s.setBldDa da).rxLen = s.rxLen := rfl
@[simp] theorem State.setBldDa_rxBuf (da : Byte) : (s.setBldDa da).rxBuf = s.rxBuf := rfl
@[simp] theorem State.setBldDa_params (da : Byte) : (s.setBldDa da).params = s.params := rfl
@[simp] theorem State.setBldDa_txEpoch (da : Byte) : (s.setBldDa da).txEpoch = s.txEpoch := rfl
@[simp] theorem State.setBldDa_inputs (da : Byte) : (s.setBldDa da).inputs = s.inputs := rfl
@[simp] theorem State.setBldDa_response (da : Byte) : (s.setBldDa da).response = s.response := rfl

/-! ### writeTx -/

@[simp] theorem State.writeTx_bldPgn (a : Nat) (v : Byte) : (s.writeTx a v).bldPgn = s.bldPgn := rfl
@[simp] theorem State.writeTx_bldPri (a : Nat) (v : Byte) : (s.writeTx a v).bldPri = s.bldPri := rfl
@[simp] theorem State.writeTx_bldSa (a : Nat) (v : Byte) : (s.writeTx a v).bldSa = s.bldSa := rfl
@[simp] theorem State.writeTx_bldDa (a : Nat) (v : Byte) : (s.writeTx a v).bldDa = s.bldDa := rfl
@[simp] theorem State.writeTx_txState (a : Nat) (v : Byte) : (s.writeTx a v).txState = s.txState := rfl
@[simp] theorem State.writeTx_txSa (a : Nat) (v : Byte) : (s.writeTx a v).txSa = s.txSa := rfl
@[simp] theorem State.writeTx_txPgn (a : Nat) (v : Byte) : (s.writeTx a v).txPgn = s.txPgn := rfl
@[simp] theorem State.writeTx_txTotal (a : Nat) (v : Byte) : (s.writeTx a v).txTotal = s.txTotal := rfl
@[simp] theorem State.writeTx_txIdx (a : Nat) (v : Byte) : (s.writeTx a v).txIdx = s.txIdx := rfl
@[simp] theorem State.writeTx_txBuf (a : Nat) (v : Byte) : (s.writeTx a v).txBuf = Memory.write (s.unlisted .txBuf) s.txBuf a v := rfl
@[simp] theorem State.writeTx_rxState (a : Nat) (v : Byte) : (s.writeTx a v).rxState = s.rxState := rfl
@[simp] theorem State.writeTx_rxSa (a : Nat) (v : Byte) : (s.writeTx a v).rxSa = s.rxSa := rfl
@[simp] theorem State.writeTx_rxPgn (a : Nat) (v : Byte) : (s.writeTx a v).rxPgn = s.rxPgn := rfl
@[simp] theorem State.writeTx_rxTotal (a : Nat) (v : Byte) : (s.writeTx a v).rxTotal = s.rxTotal := rfl
@[simp] theorem State.writeTx_rxLen (a : Nat) (v : Byte) : (s.writeTx a v).rxLen = s.rxLen := rfl
@[simp] theorem State.writeTx_rxBuf (a : Nat) (v : Byte) : (s.writeTx a v).rxBuf = s.rxBuf := rfl
@[simp] theorem State.writeTx_params (a : Nat) (v : Byte) : (s.writeTx a v).params = s.params := rfl
@[simp] theorem State.writeTx_txEpoch (a : Nat) (v : Byte) : (s.writeTx a v).txEpoch = s.txEpoch := rfl
@[simp] theorem State.writeTx_inputs (a : Nat) (v : Byte) : (s.writeTx a v).inputs = s.inputs := rfl
@[simp] theorem State.writeTx_response (a : Nat) (v : Byte) : (s.writeTx a v).response = s.response := rfl

/-! ### openTx -/

@[simp] theorem State.openTx_bldPgn (sa : Byte) (pgn : Pgn) (total : BitVec 11) : (s.openTx sa pgn total).bldPgn = s.bldPgn := rfl
@[simp] theorem State.openTx_bldPri (sa : Byte) (pgn : Pgn) (total : BitVec 11) : (s.openTx sa pgn total).bldPri = s.bldPri := rfl
@[simp] theorem State.openTx_bldSa (sa : Byte) (pgn : Pgn) (total : BitVec 11) : (s.openTx sa pgn total).bldSa = s.bldSa := rfl
@[simp] theorem State.openTx_bldDa (sa : Byte) (pgn : Pgn) (total : BitVec 11) : (s.openTx sa pgn total).bldDa = s.bldDa := rfl
@[simp] theorem State.openTx_txState (sa : Byte) (pgn : Pgn) (total : BitVec 11) : (s.openTx sa pgn total).txState = .connectionManagement := rfl
@[simp] theorem State.openTx_txSa (sa : Byte) (pgn : Pgn) (total : BitVec 11) : (s.openTx sa pgn total).txSa = sa := rfl
@[simp] theorem State.openTx_txPgn (sa : Byte) (pgn : Pgn) (total : BitVec 11) : (s.openTx sa pgn total).txPgn = pgn := rfl
@[simp] theorem State.openTx_txTotal (sa : Byte) (pgn : Pgn) (total : BitVec 11) : (s.openTx sa pgn total).txTotal = total := rfl
@[simp] theorem State.openTx_txIdx (sa : Byte) (pgn : Pgn) (total : BitVec 11) : (s.openTx sa pgn total).txIdx = s.txIdx := rfl
@[simp] theorem State.openTx_txBuf (sa : Byte) (pgn : Pgn) (total : BitVec 11) : (s.openTx sa pgn total).txBuf = s.txBuf := rfl
@[simp] theorem State.openTx_rxState (sa : Byte) (pgn : Pgn) (total : BitVec 11) : (s.openTx sa pgn total).rxState = s.rxState := rfl
@[simp] theorem State.openTx_rxSa (sa : Byte) (pgn : Pgn) (total : BitVec 11) : (s.openTx sa pgn total).rxSa = s.rxSa := rfl
@[simp] theorem State.openTx_rxPgn (sa : Byte) (pgn : Pgn) (total : BitVec 11) : (s.openTx sa pgn total).rxPgn = s.rxPgn := rfl
@[simp] theorem State.openTx_rxTotal (sa : Byte) (pgn : Pgn) (total : BitVec 11) : (s.openTx sa pgn total).rxTotal = s.rxTotal := rfl
@[simp] theorem State.openTx_rxLen (sa : Byte) (pgn : Pgn) (total : BitVec 11) : (s.openTx sa pgn total).rxLen = s.rxLen := rfl
@[simp] theorem State.openTx_rxBuf (sa : Byte) (pgn : Pgn) (total : BitVec 11) : (s.openTx sa pgn total).rxBuf = s.rxBuf := rfl
@[simp] theorem State.openTx_params (sa : Byte) (pgn : Pgn) (total : BitVec 11) : (s.openTx sa pgn total).params = s.params := rfl
@[simp] theorem State.openTx_txEpoch (sa : Byte) (pgn : Pgn) (total : BitVec 11) : (s.openTx sa pgn total).txEpoch = s.txEpoch := rfl
@[simp] theorem State.openTx_inputs (sa : Byte) (pgn : Pgn) (total : BitVec 11) : (s.openTx sa pgn total).inputs = s.inputs := rfl
@[simp] theorem State.openTx_response (sa : Byte) (pgn : Pgn) (total : BitVec 11) : (s.openTx sa pgn total).response = s.response := rfl

/-! ### startTx -/

@[simp] theorem State.startTx_bldPgn : s.startTx.bldPgn = s.bldPgn := rfl
@[simp] theorem State.startTx_bldPri : s.startTx.bldPri = s.bldPri := rfl
@[simp] theorem State.startTx_bldSa : s.startTx.bldSa = s.bldSa := rfl
@[simp] theorem State.startTx_bldDa : s.startTx.bldDa = s.bldDa := rfl
@[simp] theorem State.startTx_txState : s.startTx.txState = .dataTransfer := rfl
@[simp] theorem State.startTx_txSa : s.startTx.txSa = s.txSa := rfl
@[simp] theorem State.startTx_txPgn : s.startTx.txPgn = s.txPgn := rfl
@[simp] theorem State.startTx_txTotal : s.startTx.txTotal = s.txTotal := rfl
@[simp] theorem State.startTx_txIdx : s.startTx.txIdx = 0 := rfl
@[simp] theorem State.startTx_txBuf : s.startTx.txBuf = s.txBuf := rfl
@[simp] theorem State.startTx_rxState : s.startTx.rxState = s.rxState := rfl
@[simp] theorem State.startTx_rxSa : s.startTx.rxSa = s.rxSa := rfl
@[simp] theorem State.startTx_rxPgn : s.startTx.rxPgn = s.rxPgn := rfl
@[simp] theorem State.startTx_rxTotal : s.startTx.rxTotal = s.rxTotal := rfl
@[simp] theorem State.startTx_rxLen : s.startTx.rxLen = s.rxLen := rfl
@[simp] theorem State.startTx_rxBuf : s.startTx.rxBuf = s.rxBuf := rfl
@[simp] theorem State.startTx_params : s.startTx.params = s.params := rfl
@[simp] theorem State.startTx_txEpoch : s.startTx.txEpoch = s.txEpoch := rfl
@[simp] theorem State.startTx_inputs : s.startTx.inputs = s.inputs := rfl
@[simp] theorem State.startTx_response : s.startTx.response = s.response := rfl

/-! ### advanceTx -/

@[simp] theorem State.advanceTx_bldPgn : s.advanceTx.bldPgn = s.bldPgn := rfl
@[simp] theorem State.advanceTx_bldPri : s.advanceTx.bldPri = s.bldPri := rfl
@[simp] theorem State.advanceTx_bldSa : s.advanceTx.bldSa = s.bldSa := rfl
@[simp] theorem State.advanceTx_bldDa : s.advanceTx.bldDa = s.bldDa := rfl
@[simp] theorem State.advanceTx_txState : s.advanceTx.txState = s.txState := rfl
@[simp] theorem State.advanceTx_txSa : s.advanceTx.txSa = s.txSa := rfl
@[simp] theorem State.advanceTx_txPgn : s.advanceTx.txPgn = s.txPgn := rfl
@[simp] theorem State.advanceTx_txTotal : s.advanceTx.txTotal = s.txTotal := rfl
@[simp] theorem State.advanceTx_txIdx : s.advanceTx.txIdx = s.txIdx + 1 := rfl
@[simp] theorem State.advanceTx_txBuf : s.advanceTx.txBuf = s.txBuf := rfl
@[simp] theorem State.advanceTx_rxState : s.advanceTx.rxState = s.rxState := rfl
@[simp] theorem State.advanceTx_rxSa : s.advanceTx.rxSa = s.rxSa := rfl
@[simp] theorem State.advanceTx_rxPgn : s.advanceTx.rxPgn = s.rxPgn := rfl
@[simp] theorem State.advanceTx_rxTotal : s.advanceTx.rxTotal = s.rxTotal := rfl
@[simp] theorem State.advanceTx_rxLen : s.advanceTx.rxLen = s.rxLen := rfl
@[simp] theorem State.advanceTx_rxBuf : s.advanceTx.rxBuf = s.rxBuf := rfl
@[simp] theorem State.advanceTx_params : s.advanceTx.params = s.params := rfl
@[simp] theorem State.advanceTx_txEpoch : s.advanceTx.txEpoch = s.txEpoch := rfl
@[simp] theorem State.advanceTx_inputs : s.advanceTx.inputs = s.inputs := rfl
@[simp] theorem State.advanceTx_response : s.advanceTx.response = s.response := rfl

/-! ### closeTx -/

@[simp] theorem State.closeTx_bldPgn : s.closeTx.bldPgn = s.bldPgn := rfl
@[simp] theorem State.closeTx_bldPri : s.closeTx.bldPri = s.bldPri := rfl
@[simp] theorem State.closeTx_bldSa : s.closeTx.bldSa = s.bldSa := rfl
@[simp] theorem State.closeTx_bldDa : s.closeTx.bldDa = s.bldDa := rfl
@[simp] theorem State.closeTx_txState : s.closeTx.txState = .idle := rfl
@[simp] theorem State.closeTx_txSa : s.closeTx.txSa = s.txSa := rfl
@[simp] theorem State.closeTx_txPgn : s.closeTx.txPgn = s.txPgn := rfl
@[simp] theorem State.closeTx_txTotal : s.closeTx.txTotal = s.txTotal := rfl
@[simp] theorem State.closeTx_txIdx : s.closeTx.txIdx = s.txIdx := rfl
@[simp] theorem State.closeTx_txBuf : s.closeTx.txBuf = s.txBuf := rfl
@[simp] theorem State.closeTx_rxState : s.closeTx.rxState = s.rxState := rfl
@[simp] theorem State.closeTx_rxSa : s.closeTx.rxSa = s.rxSa := rfl
@[simp] theorem State.closeTx_rxPgn : s.closeTx.rxPgn = s.rxPgn := rfl
@[simp] theorem State.closeTx_rxTotal : s.closeTx.rxTotal = s.rxTotal := rfl
@[simp] theorem State.closeTx_rxLen : s.closeTx.rxLen = s.rxLen := rfl
@[simp] theorem State.closeTx_rxBuf : s.closeTx.rxBuf = s.rxBuf := rfl
@[simp] theorem State.closeTx_params : s.closeTx.params = s.params := rfl
@[simp] theorem State.closeTx_txEpoch : s.closeTx.txEpoch = s.txEpoch := rfl
@[simp] theorem State.closeTx_inputs : s.closeTx.inputs = s.inputs := rfl
@[simp] theorem State.closeTx_response : s.closeTx.response = s.response := rfl

/-! ### openRx -/

@[simp] theorem State.openRx_bldPgn (sa : Byte) (pgn : Pgn) (total : BitVec 11) : (s.openRx sa pgn total).bldPgn = s.bldPgn := rfl
@[simp] theorem State.openRx_bldPri (sa : Byte) (pgn : Pgn) (total : BitVec 11) : (s.openRx sa pgn total).bldPri = s.bldPri := rfl
@[simp] theorem State.openRx_bldSa (sa : Byte) (pgn : Pgn) (total : BitVec 11) : (s.openRx sa pgn total).bldSa = s.bldSa := rfl
@[simp] theorem State.openRx_bldDa (sa : Byte) (pgn : Pgn) (total : BitVec 11) : (s.openRx sa pgn total).bldDa = s.bldDa := rfl
@[simp] theorem State.openRx_txState (sa : Byte) (pgn : Pgn) (total : BitVec 11) : (s.openRx sa pgn total).txState = s.txState := rfl
@[simp] theorem State.openRx_txSa (sa : Byte) (pgn : Pgn) (total : BitVec 11) : (s.openRx sa pgn total).txSa = s.txSa := rfl
@[simp] theorem State.openRx_txPgn (sa : Byte) (pgn : Pgn) (total : BitVec 11) : (s.openRx sa pgn total).txPgn = s.txPgn := rfl
@[simp] theorem State.openRx_txTotal (sa : Byte) (pgn : Pgn) (total : BitVec 11) : (s.openRx sa pgn total).txTotal = s.txTotal := rfl
@[simp] theorem State.openRx_txIdx (sa : Byte) (pgn : Pgn) (total : BitVec 11) : (s.openRx sa pgn total).txIdx = s.txIdx := rfl
@[simp] theorem State.openRx_txBuf (sa : Byte) (pgn : Pgn) (total : BitVec 11) : (s.openRx sa pgn total).txBuf = s.txBuf := rfl
@[simp] theorem State.openRx_rxState (sa : Byte) (pgn : Pgn) (total : BitVec 11) : (s.openRx sa pgn total).rxState = .dataTransfer := rfl
@[simp] theorem State.openRx_rxSa (sa : Byte) (pgn : Pgn) (total : BitVec 11) : (s.openRx sa pgn total).rxSa = sa := rfl
@[simp] theorem State.openRx_rxPgn (sa : Byte) (pgn : Pgn) (total : BitVec 11) : (s.openRx sa pgn total).rxPgn = pgn := rfl
@[simp] theorem State.openRx_rxTotal (sa : Byte) (pgn : Pgn) (total : BitVec 11) : (s.openRx sa pgn total).rxTotal = total := rfl
@[simp] theorem State.openRx_rxLen (sa : Byte) (pgn : Pgn) (total : BitVec 11) : (s.openRx sa pgn total).rxLen = 0 := rfl
@[simp] theorem State.openRx_rxBuf (sa : Byte) (pgn : Pgn) (total : BitVec 11) : (s.openRx sa pgn total).rxBuf = [] := rfl
@[simp] theorem State.openRx_params (sa : Byte) (pgn : Pgn) (total : BitVec 11) : (s.openRx sa pgn total).params = s.params := rfl
@[simp] theorem State.openRx_txEpoch (sa : Byte) (pgn : Pgn) (total : BitVec 11) : (s.openRx sa pgn total).txEpoch = s.txEpoch := rfl
@[simp] theorem State.openRx_inputs (sa : Byte) (pgn : Pgn) (total : BitVec 11) : (s.openRx sa pgn total).inputs = s.inputs := rfl
@[simp] theorem State.openRx_response (sa : Byte) (pgn : Pgn) (total : BitVec 11) : (s.openRx sa pgn total).response = s.response := rfl

/-! ### writeRx -/

@[simp] theorem State.writeRx_bldPgn (a : Nat) (v : Byte) : (s.writeRx a v).bldPgn = s.bldPgn := rfl
@[simp] theorem State.writeRx_bldPri (a : Nat) (v : Byte) : (s.writeRx a v).bldPri = s.bldPri := rfl
@[simp] theorem State.writeRx_bldSa (a : Nat) (v : Byte) : (s.writeRx a v).bldSa = s.bldSa := rfl
@[simp] theorem State.writeRx_bldDa (a : Nat) (v : Byte) : (s.writeRx a v).bldDa = s.bldDa := rfl
@[simp] theorem State.writeRx_txState (a : Nat) (v : Byte) : (s.writeRx a v).txState = s.txState := rfl
@[simp] theorem State.writeRx_txSa (a : Nat) (v : Byte) : (s.writeRx a v).txSa = s.txSa := rfl
@[simp] theorem State.writeRx_txPgn (a : Nat) (v : Byte) : (s.writeRx a v).txPgn = s.txPgn := rfl
@[simp] theorem State.writeRx_txTotal (a : Nat) (v : Byte) : (s.writeRx a v).txTotal = s.txTotal := rfl
@[simp] theorem State.writeRx_txIdx (a : Nat) (v : Byte) : (s.writeRx a v).txIdx = s.txIdx := rfl
@[simp] theorem State.writeRx_txBuf (a : Nat) (v : Byte) : (s.writeRx a v).txBuf = s.txBuf := rfl
@[simp] theorem State.writeRx_rxState (a : Nat) (v : Byte) : (s.writeRx a v).rxState = s.rxState := rfl
@[simp] theorem State.writeRx_rxSa (a : Nat) (v : Byte) : (s.writeRx a v).rxSa = s.rxSa := rfl
@[simp] theorem State.writeRx_rxPgn (a : Nat) (v : Byte) : (s.writeRx a v).rxPgn = s.rxPgn := rfl
@[simp] theorem State.writeRx_rxTotal (a : Nat) (v : Byte) : (s.writeRx a v).rxTotal = s.rxTotal := rfl
@[simp] theorem State.writeRx_rxLen (a : Nat) (v : Byte) : (s.writeRx a v).rxLen = s.rxLen := rfl
@[simp] theorem State.writeRx_rxBuf (a : Nat) (v : Byte) : (s.writeRx a v).rxBuf = Memory.write (s.unlisted .rxBuf) s.rxBuf a v := rfl
@[simp] theorem State.writeRx_params (a : Nat) (v : Byte) : (s.writeRx a v).params = s.params := rfl
@[simp] theorem State.writeRx_txEpoch (a : Nat) (v : Byte) : (s.writeRx a v).txEpoch = s.txEpoch := rfl
@[simp] theorem State.writeRx_inputs (a : Nat) (v : Byte) : (s.writeRx a v).inputs = s.inputs := rfl
@[simp] theorem State.writeRx_response (a : Nat) (v : Byte) : (s.writeRx a v).response = s.response := rfl

/-! ### setRxLen -/

@[simp] theorem State.setRxLen_bldPgn (len : BitVec 11) : (s.setRxLen len).bldPgn = s.bldPgn := rfl
@[simp] theorem State.setRxLen_bldPri (len : BitVec 11) : (s.setRxLen len).bldPri = s.bldPri := rfl
@[simp] theorem State.setRxLen_bldSa (len : BitVec 11) : (s.setRxLen len).bldSa = s.bldSa := rfl
@[simp] theorem State.setRxLen_bldDa (len : BitVec 11) : (s.setRxLen len).bldDa = s.bldDa := rfl
@[simp] theorem State.setRxLen_txState (len : BitVec 11) : (s.setRxLen len).txState = s.txState := rfl
@[simp] theorem State.setRxLen_txSa (len : BitVec 11) : (s.setRxLen len).txSa = s.txSa := rfl
@[simp] theorem State.setRxLen_txPgn (len : BitVec 11) : (s.setRxLen len).txPgn = s.txPgn := rfl
@[simp] theorem State.setRxLen_txTotal (len : BitVec 11) : (s.setRxLen len).txTotal = s.txTotal := rfl
@[simp] theorem State.setRxLen_txIdx (len : BitVec 11) : (s.setRxLen len).txIdx = s.txIdx := rfl
@[simp] theorem State.setRxLen_txBuf (len : BitVec 11) : (s.setRxLen len).txBuf = s.txBuf := rfl
@[simp] theorem State.setRxLen_rxState (len : BitVec 11) : (s.setRxLen len).rxState = s.rxState := rfl
@[simp] theorem State.setRxLen_rxSa (len : BitVec 11) : (s.setRxLen len).rxSa = s.rxSa := rfl
@[simp] theorem State.setRxLen_rxPgn (len : BitVec 11) : (s.setRxLen len).rxPgn = s.rxPgn := rfl
@[simp] theorem State.setRxLen_rxTotal (len : BitVec 11) : (s.setRxLen len).rxTotal = s.rxTotal := rfl
@[simp] theorem State.setRxLen_rxLen (len : BitVec 11) : (s.setRxLen len).rxLen = len := rfl
@[simp] theorem State.setRxLen_rxBuf (len : BitVec 11) : (s.setRxLen len).rxBuf = s.rxBuf := rfl
@[simp] theorem State.setRxLen_params (len : BitVec 11) : (s.setRxLen len).params = s.params := rfl
@[simp] theorem State.setRxLen_txEpoch (len : BitVec 11) : (s.setRxLen len).txEpoch = s.txEpoch := rfl
@[simp] theorem State.setRxLen_inputs (len : BitVec 11) : (s.setRxLen len).inputs = s.inputs := rfl
@[simp] theorem State.setRxLen_response (len : BitVec 11) : (s.setRxLen len).response = s.response := rfl

/-! ### closeRx -/

@[simp] theorem State.closeRx_bldPgn : s.closeRx.bldPgn = s.bldPgn := rfl
@[simp] theorem State.closeRx_bldPri : s.closeRx.bldPri = s.bldPri := rfl
@[simp] theorem State.closeRx_bldSa : s.closeRx.bldSa = s.bldSa := rfl
@[simp] theorem State.closeRx_bldDa : s.closeRx.bldDa = s.bldDa := rfl
@[simp] theorem State.closeRx_txState : s.closeRx.txState = s.txState := rfl
@[simp] theorem State.closeRx_txSa : s.closeRx.txSa = s.txSa := rfl
@[simp] theorem State.closeRx_txPgn : s.closeRx.txPgn = s.txPgn := rfl
@[simp] theorem State.closeRx_txTotal : s.closeRx.txTotal = s.txTotal := rfl
@[simp] theorem State.closeRx_txIdx : s.closeRx.txIdx = s.txIdx := rfl
@[simp] theorem State.closeRx_txBuf : s.closeRx.txBuf = s.txBuf := rfl
@[simp] theorem State.closeRx_rxState : s.closeRx.rxState = .idle := rfl
@[simp] theorem State.closeRx_rxSa : s.closeRx.rxSa = s.rxSa := rfl
@[simp] theorem State.closeRx_rxPgn : s.closeRx.rxPgn = s.rxPgn := rfl
@[simp] theorem State.closeRx_rxTotal : s.closeRx.rxTotal = s.rxTotal := rfl
@[simp] theorem State.closeRx_rxLen : s.closeRx.rxLen = s.rxLen := rfl
@[simp] theorem State.closeRx_rxBuf : s.closeRx.rxBuf = s.rxBuf := rfl
@[simp] theorem State.closeRx_params : s.closeRx.params = s.params := rfl
@[simp] theorem State.closeRx_txEpoch : s.closeRx.txEpoch = s.txEpoch := rfl
@[simp] theorem State.closeRx_inputs : s.closeRx.inputs = s.inputs := rfl
@[simp] theorem State.closeRx_response : s.closeRx.response = s.response := rfl

/-! ### dropInput -/

@[simp] theorem State.dropInput_bldPgn : s.dropInput.bldPgn = s.bldPgn := rfl
@[simp] theorem State.dropInput_bldPri : s.dropInput.bldPri = s.bldPri := rfl
@[simp] theorem State.dropInput_bldSa : s.dropInput.bldSa = s.bldSa := rfl
@[simp] theorem State.dropInput_bldDa : s.dropInput.bldDa = s.bldDa := rfl
@[simp] theorem State.dropInput_txState : s.dropInput.txState = s.txState := rfl
@[simp] theorem State.dropInput_txSa : s.dropInput.txSa = s.txSa := rfl
@[simp] theorem State.dropInput_txPgn : s.dropInput.txPgn = s.txPgn := rfl
@[simp] theorem State.dropInput_txTotal : s.dropInput.txTotal = s.txTotal := rfl
@[simp] theorem State.dropInput_txIdx : s.dropInput.txIdx = s.txIdx := rfl
@[simp] theorem State.dropInput_txBuf : s.dropInput.txBuf = s.txBuf := rfl
@[simp] theorem State.dropInput_rxState : s.dropInput.rxState = s.rxState := rfl
@[simp] theorem State.dropInput_rxSa : s.dropInput.rxSa = s.rxSa := rfl
@[simp] theorem State.dropInput_rxPgn : s.dropInput.rxPgn = s.rxPgn := rfl
@[simp] theorem State.dropInput_rxTotal : s.dropInput.rxTotal = s.rxTotal := rfl
@[simp] theorem State.dropInput_rxLen : s.dropInput.rxLen = s.rxLen := rfl
@[simp] theorem State.dropInput_rxBuf : s.dropInput.rxBuf = s.rxBuf := rfl
@[simp] theorem State.dropInput_params : s.dropInput.params = s.params := rfl
@[simp] theorem State.dropInput_txEpoch : s.dropInput.txEpoch = s.txEpoch := rfl
@[simp] theorem State.dropInput_inputs : s.dropInput.inputs = s.inputs.tail := rfl
@[simp] theorem State.dropInput_response : s.dropInput.response = s.response := rfl

/-! ### answer -/

@[simp] theorem State.answer_bldPgn (r : Response) : (s.answer r).bldPgn = s.bldPgn := rfl
@[simp] theorem State.answer_bldPri (r : Response) : (s.answer r).bldPri = s.bldPri := rfl
@[simp] theorem State.answer_bldSa (r : Response) : (s.answer r).bldSa = s.bldSa := rfl
@[simp] theorem State.answer_bldDa (r : Response) : (s.answer r).bldDa = s.bldDa := rfl
@[simp] theorem State.answer_txState (r : Response) : (s.answer r).txState = s.txState := rfl
@[simp] theorem State.answer_txSa (r : Response) : (s.answer r).txSa = s.txSa := rfl
@[simp] theorem State.answer_txPgn (r : Response) : (s.answer r).txPgn = s.txPgn := rfl
@[simp] theorem State.answer_txTotal (r : Response) : (s.answer r).txTotal = s.txTotal := rfl
@[simp] theorem State.answer_txIdx (r : Response) : (s.answer r).txIdx = s.txIdx := rfl
@[simp] theorem State.answer_txBuf (r : Response) : (s.answer r).txBuf = s.txBuf := rfl
@[simp] theorem State.answer_rxState (r : Response) : (s.answer r).rxState = s.rxState := rfl
@[simp] theorem State.answer_rxSa (r : Response) : (s.answer r).rxSa = s.rxSa := rfl
@[simp] theorem State.answer_rxPgn (r : Response) : (s.answer r).rxPgn = s.rxPgn := rfl
@[simp] theorem State.answer_rxTotal (r : Response) : (s.answer r).rxTotal = s.rxTotal := rfl
@[simp] theorem State.answer_rxLen (r : Response) : (s.answer r).rxLen = s.rxLen := rfl
@[simp] theorem State.answer_rxBuf (r : Response) : (s.answer r).rxBuf = s.rxBuf := rfl
@[simp] theorem State.answer_params (r : Response) : (s.answer r).params = s.params := rfl
@[simp] theorem State.answer_txEpoch (r : Response) : (s.answer r).txEpoch = s.txEpoch := rfl
@[simp] theorem State.answer_inputs (r : Response) : (s.answer r).inputs = s.inputs := rfl
@[simp] theorem State.answer_response (r : Response) : (s.answer r).response = some r := rfl

/-! ### softReset -/

@[simp] theorem State.softReset_bldPgn : s.softReset.bldPgn = 0 := rfl
@[simp] theorem State.softReset_bldPri : s.softReset.bldPri = 6 := rfl
@[simp] theorem State.softReset_bldSa : s.softReset.bldSa = 0 := rfl
@[simp] theorem State.softReset_bldDa : s.softReset.bldDa = 0 := rfl
@[simp] theorem State.softReset_txState : s.softReset.txState = .idle := rfl
@[simp] theorem State.softReset_txSa : s.softReset.txSa = s.txSa := rfl
@[simp] theorem State.softReset_txPgn : s.softReset.txPgn = s.txPgn := rfl
@[simp] theorem State.softReset_txTotal : s.softReset.txTotal = s.txTotal := rfl
@[simp] theorem State.softReset_txIdx : s.softReset.txIdx = s.txIdx := rfl
@[simp] theorem State.softReset_txBuf : s.softReset.txBuf = [] := rfl
@[simp] theorem State.softReset_rxState : s.softReset.rxState = .idle := rfl
@[simp] theorem State.softReset_rxSa : s.softReset.rxSa = s.rxSa := rfl
@[simp] theorem State.softReset_rxPgn : s.softReset.rxPgn = s.rxPgn := rfl
@[simp] theorem State.softReset_rxTotal : s.softReset.rxTotal = s.rxTotal := rfl
@[simp] theorem State.softReset_rxLen : s.softReset.rxLen = s.rxLen := rfl
@[simp] theorem State.softReset_rxBuf : s.softReset.rxBuf = s.rxBuf := rfl
@[simp] theorem State.softReset_params : s.softReset.params = s.params := rfl
@[simp] theorem State.softReset_txEpoch : s.softReset.txEpoch = s.txEpoch + 1 := rfl
@[simp] theorem State.softReset_inputs : s.softReset.inputs = s.inputs := rfl
@[simp] theorem State.softReset_response : s.softReset.response = s.response := rfl

/-! ### hardReset -/

@[simp] theorem State.hardReset_bldPgn : s.hardReset.bldPgn = State.reset.bldPgn := rfl
@[simp] theorem State.hardReset_bldPri : s.hardReset.bldPri = State.reset.bldPri := rfl
@[simp] theorem State.hardReset_bldSa : s.hardReset.bldSa = State.reset.bldSa := rfl
@[simp] theorem State.hardReset_bldDa : s.hardReset.bldDa = State.reset.bldDa := rfl
@[simp] theorem State.hardReset_txState : s.hardReset.txState = State.reset.txState := rfl
@[simp] theorem State.hardReset_txSa : s.hardReset.txSa = State.reset.txSa := rfl
@[simp] theorem State.hardReset_txPgn : s.hardReset.txPgn = State.reset.txPgn := rfl
@[simp] theorem State.hardReset_txTotal : s.hardReset.txTotal = State.reset.txTotal := rfl
@[simp] theorem State.hardReset_txIdx : s.hardReset.txIdx = State.reset.txIdx := rfl
@[simp] theorem State.hardReset_txBuf : s.hardReset.txBuf = State.reset.txBuf := rfl
@[simp] theorem State.hardReset_rxState : s.hardReset.rxState = State.reset.rxState := rfl
@[simp] theorem State.hardReset_rxSa : s.hardReset.rxSa = State.reset.rxSa := rfl
@[simp] theorem State.hardReset_rxPgn : s.hardReset.rxPgn = State.reset.rxPgn := rfl
@[simp] theorem State.hardReset_rxTotal : s.hardReset.rxTotal = State.reset.rxTotal := rfl
@[simp] theorem State.hardReset_rxLen : s.hardReset.rxLen = State.reset.rxLen := rfl
@[simp] theorem State.hardReset_rxBuf : s.hardReset.rxBuf = State.reset.rxBuf := rfl
@[simp] theorem State.hardReset_params : s.hardReset.params = s.params := rfl
@[simp] theorem State.hardReset_txEpoch : s.hardReset.txEpoch = s.txEpoch + 1 := rfl
@[simp] theorem State.hardReset_inputs : s.hardReset.inputs = s.inputs := rfl
@[simp] theorem State.hardReset_response : s.hardReset.response = State.reset.response := rfl

/-! ### reset -/

@[simp] theorem State.reset_bldPgn : State.reset.bldPgn = 0 := rfl
@[simp] theorem State.reset_bldPri : State.reset.bldPri = 6 := rfl
@[simp] theorem State.reset_bldSa : State.reset.bldSa = 0 := rfl
@[simp] theorem State.reset_bldDa : State.reset.bldDa = 0 := rfl
@[simp] theorem State.reset_txState : State.reset.txState = .idle := rfl
@[simp] theorem State.reset_txSa : State.reset.txSa = 0 := rfl
@[simp] theorem State.reset_txPgn : State.reset.txPgn = 0 := rfl
@[simp] theorem State.reset_txTotal : State.reset.txTotal = 0 := rfl
@[simp] theorem State.reset_txIdx : State.reset.txIdx = 0 := rfl
@[simp] theorem State.reset_txBuf : State.reset.txBuf = [] := rfl
@[simp] theorem State.reset_rxState : State.reset.rxState = .idle := rfl
@[simp] theorem State.reset_rxSa : State.reset.rxSa = 0 := rfl
@[simp] theorem State.reset_rxPgn : State.reset.rxPgn = 0 := rfl
@[simp] theorem State.reset_rxTotal : State.reset.rxTotal = 0 := rfl
@[simp] theorem State.reset_rxLen : State.reset.rxLen = 0 := rfl
@[simp] theorem State.reset_rxBuf : State.reset.rxBuf = [] := rfl
@[simp] theorem State.reset_params : State.reset.params = { tpPriority := 6, tpDa := 0xFF, rxFill := 0 } := rfl
@[simp] theorem State.reset_txEpoch : State.reset.txEpoch = 0 := rfl
@[simp] theorem State.reset_inputs : State.reset.inputs = [] := rfl
@[simp] theorem State.reset_response : State.reset.response = none := rfl

end Sys2Proof.Machine
end

