-- ==== Sys2Proof/Laws/Bytes.lean ====
section
/-! SUPPORT. Bytes in words: the little-endian value of a list of bytes, the bytes of a payload, and the statements' byte of
two payload words. -/

namespace Sys2Proof.Machine

/-! ### Concatenation and extraction as arithmetic -/

theorem append_toNat {a b : Nat} (x : BitVec a) (y : BitVec b) : (x ++ y).toNat = x.toNat * 2 ^ b + y.toNat := by
  rw [BitVec.toNat_append, ← Nat.shiftLeft_add_eq_or_of_lt y.isLt, Nat.shiftLeft_eq]

theorem extract_toNat {w : Nat} (x : BitVec w) (lo n : Nat) : (x.extractLsb' lo n).toNat = x.toNat / 2 ^ lo % 2 ^ n := by
  simp [BitVec.extractLsb'_toNat, Nat.shiftRight_eq_div_pow]

/-! ### leValue -/

@[simp] theorem leValue_nil : leValue [] = 0 := rfl
@[simp] theorem leValue_cons (b : Byte) (bs : List Byte) : leValue (b :: bs) = b.toNat + 256 * leValue bs := rfl

theorem leValue_lt (bs : List Byte) : leValue bs < 256 ^ bs.length := by
  induction bs with
  | nil => simp
  | cons b bs ih =>
    have hb := b.isLt
    simp only [leValue_cons, List.length_cons, Nat.pow_succ]
    omega

/-- Dropping bytes is dividing. -/
theorem leValue_drop (bs : List Byte) (k : Nat) : leValue (bs.drop k) = leValue bs / 256 ^ k := by
  induction k generalizing bs with
  | zero => simp
  | succ k ih =>
    cases bs with
    | nil => simp
    | cons b bs =>
      have hb := b.isLt
      have h : (b.toNat + 256 * leValue bs) / 256 = leValue bs := by omega
      rw [List.drop_succ_cons, ih, leValue_cons, Nat.pow_succ', ← Nat.div_div_eq_div_mul, h]

/-- Taking bytes is a remainder. -/
theorem leValue_take (bs : List Byte) (k : Nat) : leValue (bs.take k) = leValue bs % 256 ^ k := by
  induction k generalizing bs with
  | zero => simp [Nat.mod_one]
  | succ k ih =>
    cases bs with
    | nil => simp
    | cons b bs =>
      have hb := b.isLt
      have h1 : (b.toNat + 256 * leValue bs) / 256 = leValue bs := by omega
      have h2 : (b.toNat + 256 * leValue bs) % 256 = b.toNat := by omega
      rw [List.take_succ_cons, leValue_cons, ih, leValue_cons, Nat.pow_succ', Nat.mod_mul, h1, h2]

/-- Byte `j` of the value of a list. -/
theorem leValue_byte (bs : List Byte) (j : Nat) : leValue bs / 2 ^ (8 * j) % 256 = (bs.getD j 0).toNat := by
  have h : (2 : Nat) ^ (8 * j) = 256 ^ j := by rw [Nat.pow_mul]
  rw [h, ← leValue_drop]
  induction bs generalizing j with
  | nil => simp
  | cons b bs ih =>
    have hb := b.isLt
    cases j with
    | zero => simp only [List.drop_zero, leValue_cons, List.getD_cons_zero]; omega
    | succ j =>
      rw [List.drop_succ_cons, List.getD_cons_succ]
      exact ih j (by rw [Nat.pow_mul])

theorem leValue_append (as bs : List Byte) : leValue (as ++ bs) = leValue as + 256 ^ as.length * leValue bs := by
  induction as with
  | nil => simp
  | cons a as ih => simp only [List.cons_append, leValue_cons, ih, List.length_cons, Nat.pow_succ]; ring

/-! ### Payload words -/

theorem wordByte_toNat (w : Word) (j : Nat) : (wordByte w j).toNat = w.toNat / 2 ^ (8 * j) % 256 := by
  simp [wordByte, BitVec.extractLsb'_toNat, Nat.shiftRight_eq_div_pow]

@[simp] theorem payloadBytes_length (pw0 pw1 : Word) : (payloadBytes pw0 pw1).length = 8 := rfl

theorem leValue_payloadBytes (pw0 pw1 : Word) : leValue (payloadBytes pw0 pw1) = pw0.toNat + 2 ^ 32 * pw1.toNat := by
  have h0 := pw0.isLt
  have h1 := pw1.isLt
  simp only [payloadBytes, leValue_cons, leValue_nil, wordByte_toNat]
  omega

/-- Position `j` of a payload, for the meanings and for the statements. -/
theorem payloadBytes_getD (pw0 pw1 : Word) (j : Nat) : ((payloadBytes pw0 pw1).getD j 0).toNat = payByte pw0 pw1 j := by
  rw [← leValue_byte, leValue_payloadBytes, payByte]

theorem packWord_toNat (bs : List Byte) : (packWord bs).toNat = leValue (bs.take 4) := by
  have h : leValue (bs.take 4) < 2 ^ 32 :=
    lt_of_lt_of_le (leValue_lt _) (by
      rw [show (2 : Nat) ^ 32 = 256 ^ 4 by norm_num]
      exact Nat.pow_le_pow_right (by norm_num) (by simp))
  rw [packWord, BitVec.toNat_ofNat, Nat.mod_eq_of_lt h]

/-- The value of the two payload words of eight bytes. -/
theorem payWords_value {pay : List Byte} (h : pay.length = 8) :
    (payWord0 pay).toNat + 2 ^ 32 * (payWord1 pay).toNat = leValue pay := by
  rw [payWord0, payWord1, packWord_toNat, packWord_toNat, List.take_of_length_le (l := pay.drop 4) (by simp [h])]
  conv_rhs => rw [← List.take_append_drop 4 pay, leValue_append]
  simp [h]

/-- Byte `j` of the two payload words of eight bytes is byte `j` of the list. -/
theorem payByte_payWords {pay : List Byte} (h : pay.length = 8) (j : Nat) :
    payByte (payWord0 pay) (payWord1 pay) j = (pay.getD j 0).toNat := by
  rw [payByte, payWords_value h, leValue_byte]

/-- Packing the bytes of a payload gives its words back. -/
theorem payWord0_payloadBytes (pw0 pw1 : Word) : payWord0 (payloadBytes pw0 pw1) = pw0 := by
  have h0 := pw0.isLt
  apply BitVec.eq_of_toNat_eq
  rw [payWord0, packWord_toNat, leValue_take, leValue_payloadBytes]
  omega

theorem payWord1_payloadBytes (pw0 pw1 : Word) : payWord1 (payloadBytes pw0 pw1) = pw1 := by
  have h0 := pw0.isLt
  have h1 := pw1.isLt
  apply BitVec.eq_of_toNat_eq
  rw [payWord1, packWord_toNat, leValue_take, leValue_drop, leValue_payloadBytes]
  omega

/-- Two lists of bytes of one length are equal when their values are. -/
theorem eq_of_leValue_eq {as bs : List Byte} (hl : as.length = bs.length) (h : leValue as = leValue bs) : as = bs := by
  apply List.ext_getElem hl
  intro j ha hb
  apply BitVec.eq_of_toNat_eq
  rw [show as[j] = as.getD j 0 by simp [List.getD_eq_getElem?_getD, ha],
    show bs[j] = bs.getD j 0 by simp [List.getD_eq_getElem?_getD, hb], ← leValue_byte, ← leValue_byte, h]

/-- The bytes of the words that eight bytes are packed in. -/
theorem payloadBytes_payWords {pay : List Byte} (h : pay.length = 8) :
    payloadBytes (payWord0 pay) (payWord1 pay) = pay :=
  eq_of_leValue_eq (by rw [payloadBytes_length, h]) (by rw [leValue_payloadBytes, payWords_value h])

/-- The statements' payload words are the meanings'. -/
theorem frameWord0_eq (pay : List Byte) : frameWord0 pay = payWord0 pay := rfl

theorem frameWord1_eq {pay : List Byte} (h : pay.length = 8) : frameWord1 pay = payWord1 pay := by
  rw [frameWord1, payWord1, packWord, List.take_of_length_le (l := pay.drop 4) (by simp [h])]

theorem frameLen_le (len : BitVec 4) : frameLen len ≤ 8 := Nat.min_le_right _ _

end Sys2Proof.Machine
end

