-- ==== Sys2Proof/Laws/Decode.lean ====
section
/-! SUPPORT. The header word and its three fields, and the decoder on a header with known fields. -/

namespace Sys2Proof

open Sys2Proof.Machine

theorem headerWord_toNat (op modifier : Byte) :
    (headerWord op modifier).toNat = op.toNat * 2 ^ 24 + modifier.toNat * 2 ^ 16 := by
  have h1 := append_toNat (op ++ modifier) 0#16
  rw [append_toNat op modifier] at h1
  refine h1.trans ?_
  simp only [BitVec.toNat_zero]
  omega

variable (op modifier : Byte) (w1 w2 w3 w4 w5 : Word)

@[simp] theorem op_header : (Command.mk (headerWord op modifier) w1 w2 w3 w4 w5).op = op := by
  have h := op.isLt
  have h2 := modifier.isLt
  apply BitVec.eq_of_toNat_eq
  rw [Command.op, extract_toNat, headerWord_toNat]
  omega

@[simp] theorem modifier_header : (Command.mk (headerWord op modifier) w1 w2 w3 w4 w5).modifier = modifier := by
  have h2 := modifier.isLt
  apply BitVec.eq_of_toNat_eq
  rw [Command.modifier, extract_toNat, headerWord_toNat]
  omega

@[simp] theorem low_header : (Command.mk (headerWord op modifier) w1 w2 w3 w4 w5).low = 0 := by
  apply BitVec.eq_of_toNat_eq
  rw [Command.low, extract_toNat, headerWord_toNat]
  simp only [BitVec.ofNat_eq_ofNat, BitVec.toNat_zero]
  omega

/-- A block whose header is made of an opcode and a modifier is decoded by them. -/
theorem decode_header : decode ⟨headerWord op modifier, w1, w2, w3, w4, w5⟩ =
    decodeOp op modifier ⟨headerWord op modifier, w1, w2, w3, w4, w5⟩ := by
  simp [decode]

/-- A word of this value is this header. -/
theorem eq_headerWord {w : Word} {o m : Nat} (h : w.toNat = o * 2 ^ 24 + m * 2 ^ 16) (ho : o < 2 ^ 8) (hm : m < 2 ^ 8) :
    w = headerWord (BitVec.ofNat 8 o) (BitVec.ofNat 8 m) := by
  apply BitVec.eq_of_toNat_eq
  rw [headerWord_toNat, h, BitVec.toNat_ofNat, BitVec.toNat_ofNat, Nat.mod_eq_of_lt ho, Nat.mod_eq_of_lt hm]

/-- A block whose reserved half is zero has the header of its opcode and modifier. -/
theorem Command.header_of_low {c : Command} (h : c.low = 0) : c.w0 = headerWord c.op c.modifier := by
  have hw := c.w0.isLt
  have h1 : c.low.toNat = 0 := by rw [h]; rfl
  apply BitVec.eq_of_toNat_eq
  rw [headerWord_toNat, Command.op, Command.modifier, extract_toNat, extract_toNat]
  rw [Command.low, extract_toNat] at h1
  omega

/-- An illegal block is answered by its reserved half or by its opcode map. -/
theorem decode_of_low {c : Command} (h : c.low = 0) : decode c = decodeOp c.op c.modifier c := by
  simp [decode, h]

theorem decode_of_low_ne {c : Command} (h : c.low ≠ 0) : decode c = .illegal .reservedWord := if_pos h

end Sys2Proof
end

