-- ==== Sys2Proof/Laws/Float.lean ====
section
/-! SUPPORT. The small facts about binary32 that the statements about rounding and slots rest on. -/

namespace Sys2Proof.Machine

/-! ### Patterns -/

/-- The three fields of a pattern as arithmetic. -/
theorem f32OfBits_eq (w : Word) :
    f32OfBits w =
      if w.toNat / 2 ^ 23 % 256 = 255 then
        (if w.toNat % 2 ^ 23 = 0 then .inf (decide (2 ^ 31 ≤ w.toNat)) else .nan)
      else if w.toNat / 2 ^ 23 % 256 = 0 then .fin (decide (2 ^ 31 ≤ w.toNat)) (w.toNat % 2 ^ 23) (-149)
      else .fin (decide (2 ^ 31 ≤ w.toNat)) (2 ^ 23 + w.toNat % 2 ^ 23) (((w.toNat / 2 ^ 23 % 256 : Nat) : Int) - 150) := by
  have hs : w.getLsbD 31 = decide (2 ^ 31 ≤ w.toNat) := by
    have := w.isLt
    rw [← BitVec.testBit_toNat, Nat.testBit_eq_decide_div_mod_eq]
    congr 1
    rw [eq_iff_iff]
    omega
  simp only [f32OfBits, extract_toNat, hs, Nat.pow_zero, Nat.div_one, show (2 : Nat) ^ 8 = 256 from rfl]

theorem f32Finite_ofBits (w : Word) : f32Finite (f32OfBits w) = true ↔ finitePattern w := by
  rw [f32OfBits_eq, finitePattern]
  split
  · split <;> simp_all [f32Finite]
  · split <;> simp_all [f32Finite]

theorem f32OfBits_eq_nan (w : Word) : f32OfBits w = .nan ↔ nanPattern w := by
  rw [f32OfBits_eq, nanPattern]
  split
  · split <;> simp_all
  · split <;> simp_all

theorem f32IsZero_ofBits (w : Word) : f32IsZero (f32OfBits w) = true ↔ w.toNat % 2 ^ 31 = 0 := by
  rw [f32OfBits_eq]
  split
  · split
    · simp only [f32IsZero, Bool.false_eq_true, false_iff]; omega
    · simp only [f32IsZero, Bool.false_eq_true, false_iff]; omega
  · split
    · simp only [f32IsZero, beq_iff_eq]; omega
    · simp only [f32IsZero, beq_iff_eq]; omega

/-- The meanings' legality of a descriptor is the statements'. -/
theorem slotLegal_iff (d : SlotDesc) : slotLegal d = true ↔ legalDescriptor d := by
  simp only [slotLegal, legalDescriptor, Bool.and_eq_true, Bool.not_eq_true', f32Finite_ofBits, and_assoc]
  rw [ne_eq, ← f32IsZero_ofBits, Bool.not_eq_true]

/-! ### Rounding -/

/-- A rounded quotient is within half a unit, and even when it is exactly half a unit away. -/
theorem roundHalfEven_spec (N : Nat) {D : Nat} (hD : 0 < D) :
    2 * roundHalfEven N D * D ≤ 2 * N + D ∧ 2 * N ≤ 2 * roundHalfEven N D * D + D ∧
    (2 * roundHalfEven N D * D = 2 * N + D ∨ 2 * N = 2 * roundHalfEven N D * D + D → roundHalfEven N D % 2 = 0) := by
  have hq := Nat.div_add_mod N D
  have hr := Nat.mod_lt N hD
  unfold roundHalfEven
  simp only
  generalize N / D = q at *
  generalize N % D = r at *
  subst hq
  have e1 : 2 * (q + 1) * D = 2 * (D * q) + 2 * D := by ring
  have e2 : 2 * q * D = 2 * (D * q) := by ring
  split
  · rw [e1]; omega
  · rw [e2]; omega

/-- The quantum of a positive quotient: the significand fits in 24 bits, and has 24 bits unless the quantum is the
least one. -/
theorem f32Quantum_spec {n d : Nat} (hn : 0 < n) (hd : 0 < d) :
    -149 ≤ f32Quantum n d ∧ (n : ℚ) / d < 2 ^ (f32Quantum n d + 24) ∧
    (f32Quantum n d = -149 ∨ (2 : ℚ) ^ (f32Quantum n d + 23) ≤ (n : ℚ) / d) := by
  have hd' : (0 : ℚ) < d := by exact_mod_cast hd
  have n1 : (2 : ℚ) ^ (n.log2 : Int) ≤ n := by
    rw [zpow_natCast]; exact_mod_cast Nat.log2_self_le hn.ne'
  have n2 : (n : ℚ) < 2 ^ ((n.log2 : Int) + 1) := by
    have : n < 2 ^ (n.log2 + 1) := Nat.lt_log2_self
    rw [show ((n.log2 : Int) + 1) = ((n.log2 + 1 : Nat) : Int) by simp, zpow_natCast]; exact_mod_cast this
  have d1 : (2 : ℚ) ^ (d.log2 : Int) ≤ d := by
    rw [zpow_natCast]; exact_mod_cast Nat.log2_self_le hd.ne'
  have d2 : (d : ℚ) < 2 ^ ((d.log2 : Int) + 1) := by
    have : d < 2 ^ (d.log2 + 1) := Nat.lt_log2_self
    rw [show ((d.log2 : Int) + 1) = ((d.log2 + 1 : Nat) : Int) by simp, zpow_natCast]; exact_mod_cast this
  unfold f32Quantum
  simp only
  set e : Int := (n.log2 : Int) - d.log2 - 24 with he
  have lo : (2 : ℚ) ^ (e + 23) ≤ (n : ℚ) / d := by
    rw [le_div_iff₀ hd']
    calc (2 : ℚ) ^ (e + 23) * d ≤ 2 ^ (e + 23) * 2 ^ ((d.log2 : Int) + 1) := by gcongr
      _ = 2 ^ (n.log2 : Int) := by rw [← zpow_add₀ (by norm_num)]; congr 1; omega
      _ ≤ n := n1
  have hi : (n : ℚ) / d < 2 ^ (e + 25) := by
    rw [div_lt_iff₀ hd']
    calc (n : ℚ) < 2 ^ ((n.log2 : Int) + 1) := n2
      _ = 2 ^ (e + 25) * 2 ^ (d.log2 : Int) := by rw [← zpow_add₀ (by norm_num)]; congr 1; omega
      _ ≤ 2 ^ (e + 25) * d := by gcongr
  have test : (n * 2 ^ (-e).toNat < d * 2 ^ e.toNat * 2 ^ 24) ↔ (n : ℚ) / d < 2 ^ (e + 24) := by
    have key : (2 : ℚ) ^ (e + 24) = 2 ^ e.toNat * 2 ^ 24 / 2 ^ (-e).toNat := by
      rw [eq_div_iff (by positivity)]
      simp only [← zpow_natCast]
      rw [← zpow_add₀ (by norm_num), ← zpow_add₀ (by norm_num)]
      congr 1
      push_cast
      omega
    rw [key, div_lt_div_iff₀ hd' (by positivity)]
    have e3 : (2 : ℚ) ^ e.toNat * 2 ^ 24 * d = ((d * 2 ^ e.toNat * 2 ^ 24 : Nat) : ℚ) := by push_cast; ring
    have e4 : (n : ℚ) * 2 ^ (-e).toNat = ((n * 2 ^ (-e).toNat : Nat) : ℚ) := by push_cast; ring
    rw [e3, e4]
    exact Nat.cast_lt.symm
  have main : ∀ f : Int, (n : ℚ) / d < 2 ^ (f + 24) → (2 : ℚ) ^ (f + 23) ≤ (n : ℚ) / d →
      -149 ≤ max f (-149) ∧ (n : ℚ) / d < 2 ^ (max f (-149) + 24) ∧
      (max f (-149) = -149 ∨ (2 : ℚ) ^ (max f (-149) + 23) ≤ (n : ℚ) / d) := by
    intro f h1 h2
    refine ⟨le_max_right _ _, lt_of_lt_of_le h1 ?_, ?_⟩
    · exact zpow_le_zpow_right₀ (by norm_num) (by omega)
    · rcases le_total f (-149) with h | h
      · exact .inl (max_eq_right h)
      · rw [max_eq_left h]; exact .inr h2
  split
  · rename_i h; exact main e (test.1 h) lo
  · rename_i h
    have h2 := mt test.2 h
    refine main (e + 1) ?_ ?_
    · rw [show e + 1 + 24 = e + 25 by ring]; exact hi
    · rw [show e + 1 + 23 = e + 24 by ring]; exact not_lt.1 h2

/-! ### Comparisons -/

/-- The value in units of `2^q`. -/
theorem f32Scaled_cast (neg : Bool) (m : Nat) {e q : Int} (h : q ≤ e) :
    (f32Scaled neg m e q : ℚ) * 2 ^ q = f32Rat neg m e := by
  have h2 : (2 : ℚ) ^ e = 2 ^ (e - q).toNat * 2 ^ q := by
    rw [← zpow_natCast, ← zpow_add₀ (by norm_num)]; congr 1; omega
  rw [f32Rat, f32Scaled, h2]
  cases neg <;> push_cast <;> ring

/-- The comparison of two numbers is that of their values. -/
theorem f32Lt_fin (s t : Bool) (m n : Nat) (e f : Int) :
    f32Lt (.fin s m e) (.fin t n f) = true ↔ f32Rat s m e < f32Rat t n f := by
  rw [← f32Scaled_cast s m (min_le_left e f), ← f32Scaled_cast t n (min_le_right e f),
    mul_lt_mul_iff_left₀ (by positivity), Int.cast_lt]
  simp [f32Lt]

end Sys2Proof.Machine
end

