-- ==== Sys2Proof/Laws/Memory.lean ====
section
/-! SUPPORT. The laws of the two buffers: a read after a write gives the byte written and every other byte as before, and
every memory operation keeps the canonical form. -/

namespace Sys2Proof.Machine

/-! ### Lists of cells -/

@[simp] theorem Memory.find_nil (a : Nat) : Memory.find [] a = none := rfl

theorem Memory.find_insert (m : List Host.Cell) (a : Nat) (v : Byte) (b : Nat) :
    Memory.find (Memory.insert m a v) b = if b = a then some v else Memory.find m b := by
  induction m with
  | nil => rfl
  | cons c m ih =>
    obtain ⟨k, w⟩ := c
    simp only [Memory.insert]
    split
    · simp only [Memory.find]
    · split
      · subst k; simp only [Memory.find]; split <;> rfl
      · simp only [Memory.find, ih]
        split <;> split <;> first | rfl | omega

theorem Memory.find_erase (m : List Host.Cell) (a b : Nat) :
    Memory.find (Memory.erase m a) b = if b = a then none else Memory.find m b := by
  induction m with
  | nil => simp [Memory.erase]
  | cons c m ih =>
    obtain ⟨k, w⟩ := c
    rw [Memory.erase, List.filter_cons, ← Memory.erase]
    by_cases hk : k = a
    · subst k; simp only [Memory.find, ih, ne_eq, not_true, decide_false, Bool.false_eq_true, if_false]; split <;> rfl
    · simp only [ne_eq, hk, not_false_eq_true, decide_true, if_true, Memory.find, ih]
      split <;> split <;> first | rfl | omega

/-- Reading through the default after a write. -/
theorem Memory.find_write_or (d : Option Byte) (m : List Host.Cell) (a : Nat) (v : Byte) (b : Nat) :
    (Memory.find (Memory.write d m a v) b).or d = if b = a then some v else (Memory.find m b).or d := by
  unfold Memory.write
  split
  · rename_i h; rw [Memory.find_erase, h]; split <;> rfl
  · rw [Memory.find_insert]; split <;> rfl

theorem Memory.wf_nil (d : Option Byte) : Memory.wf d [] := by simp [Memory.wf]

theorem Memory.wf_erase {d : Option Byte} {m : List Host.Cell} (h : Memory.wf d m) (a : Nat) :
    Memory.wf d (Memory.erase m a) :=
  ⟨h.1.filter _, fun c hc => h.2 c (List.mem_of_mem_filter hc)⟩

/-- Inserting lists the new cell, and cells listed before at other addresses. -/
theorem Memory.mem_insert {m : List Host.Cell} {a : Nat} {v : Byte} {c : Host.Cell} (h : c ∈ Memory.insert m a v) :
    c = (a, v) ∨ c ∈ m := by
  induction m with
  | nil => simpa [Memory.insert] using h
  | cons x m ih =>
    obtain ⟨k, w⟩ := x
    simp only [Memory.insert] at h
    split at h
    · simpa using h
    · split at h
      · rcases List.mem_cons.1 h with h | h
        · exact .inl h
        · exact .inr (List.mem_cons_of_mem _ h)
      · rcases List.mem_cons.1 h with h | h
        · exact .inr (h ▸ List.mem_cons_self)
        · exact (ih h).imp id (List.mem_cons_of_mem _)

theorem Memory.wf_insert {d : Option Byte} {m : List Host.Cell} (h : Memory.wf d m) {a : Nat} {v : Byte}
    (ha : a < Config.tpMax) (hv : d ≠ some v) : Memory.wf d (Memory.insert m a v) := by
  refine ⟨?_, fun c hc => ?_⟩
  · have h1 := h.1
    clear h
    induction m with
    | nil => simp [Memory.insert]
    | cons x m ih =>
      obtain ⟨k, w⟩ := x
      obtain ⟨hx, hm⟩ := List.pairwise_cons.1 h1
      simp only [Memory.insert]
      split
      · refine List.pairwise_cons.2 ⟨fun y hy => ?_, h1⟩
        rcases List.mem_cons.1 hy with rfl | hy
        · assumption
        · have := hx y hy; simp only at this ⊢; omega
      · split
        · subst k; exact List.pairwise_cons.2 ⟨hx, hm⟩
        · refine List.pairwise_cons.2 ⟨fun y hy => ?_, ih hm⟩
          rcases Memory.mem_insert hy with rfl | hy
          · simp only; omega
          · exact hx y hy
  · rcases Memory.mem_insert hc with rfl | hc
    · exact ⟨ha, hv⟩
    · exact h.2 c hc

/-- A write within the storage keeps the canonical form. -/
theorem Memory.wf_write {d : Option Byte} {m : List Host.Cell} (h : Memory.wf d m) {a : Nat} (ha : a < Config.tpMax)
    (v : Byte) : Memory.wf d (Memory.write d m a v) := by
  unfold Memory.write
  split
  · exact Memory.wf_erase h a
  · rename_i hv; exact Memory.wf_insert h ha hv

/-- The two buffers right after reset are canonical. -/
theorem State.reset_wf (sp : Space) : Memory.wf (State.reset.unlisted sp) (State.reset.cells sp) := by
  cases sp <;> exact Memory.wf_nil _

/-! ### Reading a buffer byte -/

@[simp] theorem State.cells_txBuf (s : State) : s.cells .txBuf = s.txBuf := rfl
@[simp] theorem State.cells_rxBuf (s : State) : s.cells .rxBuf = s.rxBuf := rfl
@[simp] theorem State.unlisted_txBuf (s : State) : s.unlisted .txBuf = none := rfl
@[simp] theorem State.unlisted_rxBuf (s : State) : s.unlisted .rxBuf = some s.params.rxFill := rfl

theorem State.readByte_eq (s : State) (sp : Space) (a : Nat) :
    s.readByte sp a = (Memory.find (s.cells sp) a).or (s.unlisted sp) := by
  unfold State.readByte; split <;> rename_i h <;> rw [h] <;> rfl

/-- What a buffer byte reads as depends on the cells and the parameters alone. -/
theorem State.readByte_congr {s t : State} {sp : Space} (hc : t.cells sp = s.cells sp) (hp : t.params = s.params)
    (a : Nat) : t.readByte sp a = s.readByte sp a := by
  rw [readByte_eq, readByte_eq, hc]; cases sp <;> simp [hp]

/-- Every byte of RXBUF has a stated value. -/
theorem State.readByte_rxBuf_isSome (s : State) (a : Nat) : (s.readByte .rxBuf a).isSome = true := by
  rw [readByte_eq]; simp

theorem State.byteAt_of_readByte {s : State} {sp : Space} {a : Nat} {v : Byte} (h : s.readByte sp a = some v) :
    s.byteAt sp a = v := by
  rw [byteAt, h]; rfl

theorem State.readByte_rxBuf_byteAt (s : State) (a : Nat) : s.readByte .rxBuf a = some (s.byteAt .rxBuf a) := by
  obtain ⟨v, hv⟩ := Option.isSome_iff_exists.1 (s.readByte_rxBuf_isSome a)
  rw [hv, State.byteAt_of_readByte hv]

theorem State.readByte_writeTx (s : State) (a : Nat) (v : Byte) (b : Nat) :
    (s.writeTx a v).readByte .txBuf b = if b = a then some v else s.readByte .txBuf b := by
  have h := Memory.find_write_or (s.unlisted .txBuf) s.txBuf a v b
  rw [readByte_eq, readByte_eq]
  exact h

theorem State.readByte_writeRx (s : State) (a : Nat) (v : Byte) (b : Nat) :
    (s.writeRx a v).readByte .rxBuf b = if b = a then some v else s.readByte .rxBuf b := by
  have h := Memory.find_write_or (s.unlisted .rxBuf) s.rxBuf a v b
  rw [readByte_eq, readByte_eq]
  exact h

/-- An opened receiver session reads RX_FILL everywhere. -/
theorem State.readByte_openRx (s : State) (sa : Byte) (pgn : Pgn) (total : BitVec 11) (a : Nat) :
    (s.openRx sa pgn total).readByte .rxBuf a = some s.params.rxFill := rfl

theorem State.readByte_softReset (s : State) (a : Nat) : s.softReset.readByte .txBuf a = none := rfl

theorem State.readByte_hardReset (s : State) (a : Nat) : s.hardReset.readByte .txBuf a = none := rfl

@[simp] theorem State.readByte_answer (s : State) (r : Response) (sp : Space) (a : Nat) :
    (s.answer r).readByte sp a = s.readByte sp a := by cases sp <;> rfl

@[simp] theorem State.readByte_setRxLen (s : State) (n : BitVec 11) (sp : Space) (a : Nat) :
    (s.setRxLen n).readByte sp a = s.readByte sp a := by cases sp <;> rfl

end Sys2Proof.Machine
end

