-- ==== Sys2Proof/Laws/Ops.lean ====
section
/-! SUPPORT. For each shared operation, once, everything it can do. -/

namespace Sys2Proof.Machine

/-! ### How an operation ends -/

/-- The status word is the status number below RLEN. -/
theorem statusWord_toNat (st : Status) (n : BitVec 4) : (statusWord st n).toNat = n.toNat * 256 + st.code.toNat := by
  have h1 := append_toNat (0#20 ++ n) st.code
  have h2 := append_toNat 0#20 n
  rw [h2] at h1
  exact h1.trans (by simp)

@[simp] theorem okResponse_eq (r0 r1 r2 : Word) : okResponse r0 r1 r2 = ⟨0, r0, r1, r2⟩ := rfl
@[simp] theorem frameResponse_eq (r0 r1 r2 : Word) : frameResponse r0 r1 r2 = ⟨0x800, r0, r1, r2⟩ := rfl

/-- An error response holds the status number and zeros. -/
theorem errorResponse_eq (st : Status) : errorResponse st = ⟨st.code.setWidth 32, 0, 0, 0⟩ := by
  cases st <;> rfl

theorem code_toNat_le (st : Status) : st.code.toNat ≤ 10 := by cases st <;> decide

theorem code_toNat_eq_zero {st : Status} : st.code.toNat = 0 ↔ st = .ok := by cases st <;> decide

theorem raise_eq (st : Status) (s : State) : raise st s = .next { s with response := some (errorResponse st) } := rfl
theorem finish_eq (r0 r1 r2 : Word) (s : State) :
    finish r0 r1 r2 s = .next { s with response := some ⟨0, r0, r1, r2⟩ } := rfl
theorem done_eq (s : State) : done s = .next { s with response := some ⟨0, 0, 0, 0⟩ } := rfl
theorem give_eq (r0 : Word) (s : State) : give r0 s = .next { s with response := some ⟨0, r0, 0, 0⟩ } := rfl
theorem giveFrame_eq (id : Ident) (pay : List Byte) (s : State) :
    giveFrame id pay s = .next { s with response := some ⟨0x800, id.setWidth 32, payWord0 pay, payWord1 pay⟩ } := rfl

/-! ### Queries of the receiver -/

/-- A query of the receiver answers the word of a session, or NO_SESSION. -/
theorem rxQuery_cases (w : Word) (s : State) :
    (s.rxState = .idle ∧ rxQuery w s = raise .noSession s) ∨
    (s.rxState = .dataTransfer ∧ rxQuery w s = give w s) := by
  unfold rxQuery; cases h : s.rxState <;> simp

@[simp] theorem backed_eq_true {a : Nat} : backed a = true ↔ a < 1785 := decide_eq_true_iff
@[simp] theorem backed_eq_false {a : Nat} : backed a = false ↔ 1785 ≤ a := decide_eq_false_iff_not.trans Nat.not_lt

/-- RXB.RD ends in NO_SESSION, BAD_ADDRESS, or the byte of an address below RX.len with storage. -/
theorem execRxbRd_cases (a : Word) (s : State) :
    (s.rxState = .idle ∧ execRxbRd a s = raise .noSession s) ∨
    (s.rxState = .dataTransfer ∧ min s.rxLen.toNat 1785 ≤ a.toNat ∧ execRxbRd a s = raise .badAddress s) ∨
    (s.rxState = .dataTransfer ∧ a.toNat < min s.rxLen.toNat 1785 ∧
      execRxbRd a s = give ((s.byteAt .rxBuf a.toNat).setWidth 32) s) := by
  have hb : (s.rxLen.toNat ≤ a.toNat || !backed a.toNat) = decide (min s.rxLen.toNat 1785 ≤ a.toNat) := by
    rw [Bool.eq_iff_iff]; simp
  unfold execRxbRd
  rw [hb]
  cases h : s.rxState
  · exact .inl ⟨rfl, rfl⟩
  · by_cases h2 : min s.rxLen.toNat 1785 ≤ a.toNat
    · exact .inr (.inl ⟨rfl, h2, by simp [h2]⟩)
    · exact .inr (.inr ⟨rfl, by omega, by simp [h2]⟩)

/-! ### Slots -/

/-- SLOT.DEC ends in SLOT_DOMAIN, None, or Some value. -/
theorem slotDec_cases (t : RawType) (r : Nat) (d : SlotDesc) (s : State) :
    (slotLegal d = false ∧ slotDec t r d s = raise .slotDomain s) ∨
    (slotLegal d = true ∧ r = t.sentinel ∧ slotDec t r d s = finish 0 0 0 s) ∨
    (slotLegal d = true ∧ r ≠ t.sentinel ∧ slotDec t r d s = finish (f32ToBits (slotValue (t.value r) d)) 1 0 s) := by
  unfold slotDec
  cases h : slotLegal d
  · exact .inl ⟨rfl, rfl⟩
  · by_cases hr : r = t.sentinel
    · exact .inr (.inl ⟨rfl, hr, by simp [hr]⟩)
    · exact .inr (.inr ⟨rfl, hr, by simp [hr]⟩)

/-- SLOT.ENC ends in SLOT_DOMAIN, the sentinel, or a raw pattern. -/
theorem slotEnc_cases (t : RawType) (value : Option Word) (d : SlotDesc) (s : State) :
    (slotLegal d = false ∧ slotEnc t value d s = raise .slotDomain s) ∨
    (slotLegal d = true ∧ value = none ∧ slotEnc t value d s = give (BitVec.ofNat 32 t.sentinel) s) ∨
    (slotLegal d = true ∧ ∃ w, value = some w ∧ f32OfBits w = .nan ∧ slotEnc t value d s = raise .slotDomain s) ∨
    (slotLegal d = true ∧ ∃ w, value = some w ∧ f32OfBits w ≠ .nan ∧
      slotEnc t value d s = give (t.pattern (slotRaw t (f32OfBits w) d)) s) := by
  unfold slotEnc
  cases h : slotLegal d
  · exact .inl ⟨rfl, rfl⟩
  · cases value with
    | none => exact .inr (.inl ⟨rfl, rfl, rfl⟩)
    | some w =>
      by_cases hw : f32OfBits w = .nan
      · exact .inr (.inr (.inl ⟨rfl, w, rfl, hw, by simp [hw]⟩))
      · exact .inr (.inr (.inr ⟨rfl, w, rfl, hw, by simp [hw]⟩))

/-! ### Payload fields -/

/-- FLD.GET ends in MALFORMED_INPUT or the field's value. -/
theorem fldGet_cases (w : Nat) (len : BitVec 4) (k pw0 pw1 : Word) (s : State) :
    (frameLen len < k.toNat + w ∧ fldGet w len k pw0 pw1 s = raise .malformedInput s) ∨
    (k.toNat + w ≤ frameLen len ∧
      fldGet w len k pw0 pw1 s =
        give (BitVec.ofNat 32 ((pw0.toNat + 2 ^ 32 * pw1.toNat) / 2 ^ (8 * k.toNat) % 2 ^ (8 * w))) s) := by
  unfold fldGet
  by_cases h : frameLen len < k.toNat + w
  · exact .inl ⟨h, if_pos h⟩
  · refine .inr ⟨by omega, ?_⟩
    have h2 : ∀ n : Nat, (256 : Nat) ^ n = 2 ^ (8 * n) := fun n => by rw [Nat.pow_mul]
    rw [if_neg h, leValue_take, leValue_drop, leValue_payloadBytes, h2, h2]

theorem putBytes_length {pay bs : List Byte} {k : Nat} (h : k + bs.length ≤ pay.length) :
    (putBytes pay k bs).length = pay.length := by
  simp [putBytes]; omega

theorem putBytes_getD {pay bs : List Byte} {k : Nat} (h : k + bs.length ≤ pay.length) (j : Nat) :
    (putBytes pay k bs).getD j 0 = if k ≤ j ∧ j < k + bs.length then bs.getD (j - k) 0 else pay.getD j 0 := by
  have hk : min k pay.length = k := by omega
  simp only [putBytes, List.getD_eq_getElem?_getD, List.append_assoc]
  by_cases h1 : j < k
  · rw [if_neg (by omega), List.getElem?_append_left (by simp [hk]; omega), List.getElem?_take_of_lt h1]
  · rw [List.getElem?_append_right (by simp [hk]; omega), List.length_take, hk]
    by_cases h2 : j < k + bs.length
    · rw [if_pos ⟨by omega, h2⟩, List.getElem?_append_left (by omega)]
    · rw [if_neg (by omega), List.getElem?_append_right (by omega), List.getElem?_drop]
      congr 2; omega

theorem rawBytes_getD (raw : Word) (w j : Nat) (h : j < w) : ((rawBytes raw w).getD j 0) = wordByte raw j := by
  simp [rawBytes, List.getD_eq_getElem?_getD, h]

/-- FLD.PUT ends in MALFORMED_INPUT or the payload with the field replaced. -/
theorem fldPut_cases (w : Nat) (len : BitVec 4) (k pw0 pw1 raw : Word) (s : State) :
    (frameLen len < k.toNat + w ∧ fldPut w len k pw0 pw1 raw s = raise .malformedInput s) ∨
    (k.toNat + w ≤ frameLen len ∧
      fldPut w len k pw0 pw1 raw s =
        finish 0 (payWord0 (putBytes (payloadBytes pw0 pw1) k.toNat (rawBytes raw w)))
          (payWord1 (putBytes (payloadBytes pw0 pw1) k.toNat (rawBytes raw w))) s) := by
  unfold fldPut
  by_cases h : frameLen len < k.toNat + w
  · exact .inl ⟨h, if_pos h⟩
  · exact .inr ⟨by omega, if_neg h⟩

/-! ### Sender -/

theorem bamPayload_length (total : BitVec 11) (pgn : Pgn) : (bamPayload total pgn).length = 8 := rfl

theorem dtPayload_length {sq : Byte} {chunk : List Byte} (h : chunk.length ≤ 7) : (dtPayload sq chunk).length = 8 := by
  simp [dtPayload, Config.tpChunk]; omega

/-- Position `j + 1` of a DataTransfer payload: the chunk, then the padding. -/
theorem dtPayload_getD (sq : Byte) (chunk : List Byte) (j : Nat) (hj : j < 7) :
    (dtPayload sq chunk).getD (j + 1) 0 = chunk.getD j 0xFF := by
  simp only [dtPayload, List.cons_append, List.getD_cons_succ]
  simp only [List.getD_eq_getElem?_getD]
  by_cases h : j < chunk.length
  · rw [List.getElem?_append_left h]; simp [h]
  · rw [List.getElem?_append_right (by omega), List.getElem?_replicate,
      if_pos (by simp only [Config.tpChunk]; omega)]
    simp [show chunk.length ≤ j by omega, Config.tpPad]

theorem txChunk_getD (off k : Nat) (s : State) (i : Nat) (h : i < k) (d : Byte) :
    (txChunk off k s).getD i d = s.byteAt .txBuf (off + i) := by
  simp [txChunk, List.getD_eq_getElem?_getD, h]

@[simp] theorem txChunk_length (off k : Nat) (s : State) : (txChunk off k s).length = k := by simp [txChunk]

/-- The chunk of the next DataTransfer frame lies in the storage when the total is at most 1785. -/
theorem chunk_backed {s : State} (ht : s.txTotal.toNat ≤ 1785) (hi : s.txIdx.toNat < packetCount s.txTotal) :
    backed (s.txIdx.toNat * Config.tpChunk + min Config.tpChunk (s.txTotal.toNat - s.txIdx.toNat * Config.tpChunk) - 1)
      = true := by
  simp only [packetCount, Config.tpChunk] at hi
  refine decide_eq_true ?_
  simp only [Config.tpChunk, Config.tpMax]
  omega

/-- TXS.NEXT in DataTransfer with a frame left and a legal total emits it. -/
theorem sendData_eq {s : State} (ht : s.txTotal.toNat ≤ 1785) (hi : s.txIdx.toNat < packetCount s.txTotal) :
    sendData s = giveFrame (txIdent Config.pgnTpDt s)
      (dtPayload (s.txIdx + 1) (txChunk (s.txIdx.toNat * 7) (min 7 (s.txTotal.toNat - s.txIdx.toNat * 7)) s))
      s.advanceTx := by
  unfold sendData
  simp only [chunk_backed ht hi, Bool.not_true, Bool.false_eq_true, if_false]
  rfl

/-- TXS.NEXT ends in NO_SESSION, the BAM frame, a DataTransfer frame, or EXHAUSTED, by the sender's state and index. -/
theorem execTxsNext_cases (s : State) :
    (s.txState = .idle ∧ execTxsNext s = raise .noSession s) ∨
    (s.txState = .connectionManagement ∧ execTxsNext s = sendBam s) ∨
    (s.txState = .dataTransfer ∧ s.txIdx.toNat < packetCount s.txTotal ∧ execTxsNext s = sendData s) ∨
    (s.txState = .dataTransfer ∧ packetCount s.txTotal ≤ s.txIdx.toNat ∧ execTxsNext s = raise .exhausted s) := by
  unfold execTxsNext
  cases h : s.txState
  · exact .inl ⟨rfl, rfl⟩
  · exact .inr (.inl ⟨rfl, rfl⟩)
  · by_cases h2 : s.txIdx.toNat < packetCount s.txTotal
    · exact .inr (.inr (.inl ⟨rfl, h2, if_pos h2⟩))
    · exact .inr (.inr (.inr ⟨rfl, Nat.not_lt.1 h2, if_neg h2⟩))

/-! ### Receiver -/

/-- A ConnectionManagement frame ends in MALFORMED_INPUT, PROTOCOL_VIOLATION, or an opened session. -/
theorem feedConnection_cases (n : Nat) (id : Ident) (pay : List Byte) (s : State) :
    (n < 8 ∧ feedConnection n id pay s = raise .malformedInput s) ∨
    (8 ≤ n ∧ (pay.getD 0 0 ≠ 0x20 ∨ 1785 < leValue [pay.getD 1 0, pay.getD 2 0]) ∧
      feedConnection n id pay s = raise .protocolViolation s) ∨
    (8 ≤ n ∧ pay.getD 0 0 = 0x20 ∧ leValue [pay.getD 1 0, pay.getD 2 0] ≤ 1785 ∧
      feedConnection n id pay s =
        done (s.openRx (idSa id) (pgnFromLe (pay.getD 5 0) (pay.getD 6 0) (pay.getD 7 0))
          (BitVec.ofNat 11 (leValue [pay.getD 1 0, pay.getD 2 0])))) := by
  unfold feedConnection Config.frameMax Config.tpBam
  by_cases h1 : n < 8
  · exact .inl ⟨h1, if_pos h1⟩
  · rw [if_neg (by exact h1)]
    by_cases h2 : pay.getD 0 0 = 0x20
    · rw [if_neg (show ¬ pay.getD 0 0 ≠ 0x20 from not_not_intro h2)]
      by_cases h3 : 1785 < leValue [pay.getD 1 0, pay.getD 2 0]
      · exact .inr (.inl ⟨by omega, .inr h3, if_pos h3⟩)
      · exact .inr (.inr ⟨by omega, h2, by omega, if_neg h3⟩)
    · exact .inr (.inl ⟨by omega, .inl h2, if_pos h2⟩)

/-- Storing a chunk writes RXBUF and nothing else. -/
theorem storeChunk_frame (off : Nat) (bs : List Byte) (s : State) :
    storeChunk off bs s = { s with rxBuf := (storeChunk off bs s).rxBuf } := by
  induction bs generalizing off s with
  | nil => rfl
  | cons b bs ih =>
    rw [storeChunk]
    split
    · rw [ih]; rfl
    · rw [ih]

@[simp] theorem storeChunk_params (off : Nat) (bs : List Byte) (s : State) :
    (storeChunk off bs s).params = s.params := by rw [storeChunk_frame]

/-- A stored chunk reads back below the declared total; every other byte of RXBUF reads as before. -/
theorem storeChunk_readByte (off : Nat) (bs : List Byte) (s : State) (a : Nat) :
    (storeChunk off bs s).readByte .rxBuf a =
      if off ≤ a ∧ a < off + bs.length ∧ a < s.rxTotal.toNat then some (bs.getD (a - off) 0)
      else s.readByte .rxBuf a := by
  induction bs generalizing off s with
  | nil => rw [if_neg (by simp only [List.length_nil]; omega)]; rfl
  | cons b bs ih =>
    rw [storeChunk, ih]
    have htot : (if off < s.rxTotal.toNat then s.writeRx off b else s).rxTotal = s.rxTotal := by split <;> rfl
    rw [htot]
    simp only [List.length_cons]
    by_cases h : off + 1 ≤ a ∧ a < off + 1 + bs.length ∧ a < s.rxTotal.toNat
    · rw [if_pos h, if_pos (by omega), show a - off = (a - (off + 1)) + 1 by omega, List.getD_cons_succ]
    · rw [if_neg h]
      by_cases h2 : off < s.rxTotal.toNat
      · rw [if_pos h2, State.readByte_writeRx]
        by_cases h3 : a = off
        · subst h3; rw [if_pos rfl, if_pos (by omega)]; simp
        · rw [if_neg h3, if_neg (by omega)]
      · rw [if_neg h2, if_neg (by omega)]

/-- Storing a chunk keeps the canonical form when the declared total is at most 1785. -/
theorem storeChunk_wf {s : State} (off : Nat) (bs : List Byte) (ht : s.rxTotal.toNat ≤ 1785)
    (h : Memory.wf (s.unlisted .rxBuf) s.rxBuf) :
    Memory.wf (some s.params.rxFill) (storeChunk off bs s).rxBuf := by
  induction bs generalizing off s with
  | nil => exact h
  | cons b bs ih =>
    rw [storeChunk]
    split
    · rename_i h2
      exact ih (s := s.writeRx off b) (off + 1) ht
        (Memory.wf_write h (by simp only [Config.tpMax]; omega) b)
    · exact ih (off + 1) ht h

/-- A DataTransfer frame ends in MALFORMED_INPUT, PROTOCOL_VIOLATION, or a stored chunk and an assigned length. -/
theorem feedData_cases (n : Nat) (pay : List Byte) (s : State) :
    (n < 1 ∧ feedData n pay s = raise .malformedInput s) ∨
    (1 ≤ n ∧ (s.rxState = .idle ∨ (pay.getD 0 0).toNat = 0) ∧ feedData n pay s = raise .protocolViolation s) ∨
    (1 ≤ n ∧ s.rxState = .dataTransfer ∧ (pay.getD 0 0).toNat ≠ 0 ∧
      feedData n pay s =
        done ((storeChunk (((pay.getD 0 0).toNat - 1) * 7) ((pay.drop 1).take (n - 1)) s).setRxLen
          (BitVec.ofNat 11 (min s.rxTotal.toNat (((pay.getD 0 0).toNat - 1) * 7 + (n - 1)))))) := by
  unfold feedData
  by_cases h1 : n < 1
  · exact .inl ⟨h1, if_pos h1⟩
  · rw [if_neg h1]
    cases h2 : s.rxState with
    | idle => exact .inr (.inl ⟨by omega, .inl rfl, if_pos rfl⟩)
    | dataTransfer =>
      rw [if_neg (by simp)]
      by_cases h3 : (pay.getD 0 0).toNat = 0
      · exact .inr (.inl ⟨by omega, .inr h3, if_pos h3⟩)
      · exact .inr (.inr ⟨by omega, rfl, h3, if_neg h3⟩)

/-- A fed frame is a ConnectionManagement frame, a DataTransfer frame, or answered NOT_TRANSPORT, by its bits 25..16. -/
theorem idPgnRaw_toNat (id : Ident) :
    (idPgnRaw id).toNat =
      if 240 ≤ id.toNat / 2 ^ 16 % 2 ^ 8 then id.toNat / 2 ^ 8 % 2 ^ 18 else id.toNat / 2 ^ 16 % 2 ^ 10 * 2 ^ 8 := by
  have h : idIsPdu2 id = decide (240 ≤ id.toNat / 2 ^ 16 % 2 ^ 8) := by
    rw [idIsPdu2, idPf, extract_toNat]; rfl
  rw [idPgnRaw, h]
  by_cases h2 : 240 ≤ id.toNat / 2 ^ 16 % 2 ^ 8
  · rw [if_pos (by simpa using h2), if_pos h2, extract_toNat]
  · rw [if_neg (by simpa using h2), if_neg h2]
    exact (append_toNat _ _).trans (by rw [extract_toNat]; simp)

theorem idPgnRaw_eq_tpCm {id : Ident} : idPgnRaw id = Config.pgnTpCm ↔ id.toNat / 2 ^ 16 % 2 ^ 10 = 0xEC := by
  rw [← BitVec.toNat_inj, idPgnRaw_toNat, show (Config.pgnTpCm).toNat = 0xEC00 from rfl]
  split <;> omega

theorem idPgnRaw_eq_tpDt {id : Ident} : idPgnRaw id = Config.pgnTpDt ↔ id.toNat / 2 ^ 16 % 2 ^ 10 = 0xEB := by
  rw [← BitVec.toNat_inj, idPgnRaw_toNat, show (Config.pgnTpDt).toNat = 0xEB00 from rfl]
  split <;> omega

theorem feedFrame_tpCm {id : Ident} (h : id.toNat / 2 ^ 16 % 2 ^ 10 = 0xEC) (n : Nat) (pay : List Byte) (s : State) :
    feedFrame n id pay s = feedConnection n id pay s := if_pos (idPgnRaw_eq_tpCm.2 h)

theorem feedFrame_tpDt {id : Ident} (h : id.toNat / 2 ^ 16 % 2 ^ 10 = 0xEB) (n : Nat) (pay : List Byte) (s : State) :
    feedFrame n id pay s = feedData n pay s := by
  rw [feedFrame, if_neg (fun h2 => by rw [idPgnRaw_eq_tpCm] at h2; omega), if_pos (idPgnRaw_eq_tpDt.2 h)]

theorem feedFrame_other {id : Ident} (h : id.toNat / 2 ^ 16 % 2 ^ 10 ≠ 0xEC) (h2 : id.toNat / 2 ^ 16 % 2 ^ 10 ≠ 0xEB)
    (n : Nat) (pay : List Byte) (s : State) : feedFrame n id pay s = raise .notTransport s := by
  rw [feedFrame, if_neg (mt idPgnRaw_eq_tpCm.1 h), if_neg (mt idPgnRaw_eq_tpDt.1 h2)]

end Sys2Proof.Machine
end

