-- ==== Sys2Proof/Laws/PerInstr.lean ====
section
/-! SUPPORT. Statements made per instruction, one lemma per constructor. `HeaderShape`: the command block that issues an
operation has a zero reserved half in its header and is an instance of exactly one row of spec/opcode_table.json, the row of
the operation's mnemonic; of a wire-format row, of the operation it stands for (30_encoding.md R74, R80, R81). -/

namespace Sys2Proof.Laws.HeaderShape

/-- The reserved half of the header is zero, and the rows that the block matches are the one row of the operation. -/
def Statement (i : Instr) : Prop :=
  (encode i).low = 0 ∧ (opTable.filter (fun r => r.matches (encode i))).map OpRow.mnemonic = [i.core.mnemonic]

/-- What the statement says of a header word and a mnemonic, as a Bool. -/
def check (w0 : Word) (m : String) : Bool :=
  w0.extractLsb' 0 16 == 0 && (opTable.filter (fun r => w0 &&& r.mask == r.pattern)).map OpRow.mnemonic == [m]

/-- Nothing but the header and the mnemonic matters to the statement. -/
theorem of_check {i : Instr} (w0 : Word) (m : String) (h : (encode i).w0 = w0) (hm : i.core.mnemonic = m)
    (hc : check w0 m = true) : Statement i := by
  subst h hm
  rw [check, Bool.and_eq_true, beq_iff_eq, beq_iff_eq] at hc
  exact hc

theorem blkReset : Statement (.blkReset) :=
  of_check (headerWord 0x01 0) "BLK.RESET" rfl rfl (by decide)

theorem idNew (raw : Word) : Statement (.idNew raw) :=
  of_check (headerWord 0x10 0) "ID.NEW" rfl rfl (by decide)

theorem idPrio (id : Ident) : Statement (.idPrio id) :=
  of_check (headerWord 0x11 0) "ID.PRIO" rfl rfl (by decide)

theorem idDp (id : Ident) : Statement (.idDp id) :=
  of_check (headerWord 0x12 0) "ID.DP" rfl rfl (by decide)

theorem idPf (id : Ident) : Statement (.idPf id) :=
  of_check (headerWord 0x13 0) "ID.PF" rfl rfl (by decide)

theorem idPs (id : Ident) : Statement (.idPs id) :=
  of_check (headerWord 0x14 0) "ID.PS" rfl rfl (by decide)

theorem idPgn (id : Ident) : Statement (.idPgn id) :=
  of_check (headerWord 0x15 0) "ID.PGN" rfl rfl (by decide)

theorem idDa (id : Ident) : Statement (.idDa id) :=
  of_check (headerWord 0x16 0) "ID.DA" rfl rfl (by decide)

theorem idGe (id : Ident) : Statement (.idGe id) :=
  of_check (headerWord 0x17 0) "ID.GE" rfl rfl (by decide)

theorem idSa (id : Ident) : Statement (.idSa id) :=
  of_check (headerWord 0x18 0) "ID.SA" rfl rfl (by decide)

theorem idBcast (id : Ident) : Statement (.idBcast id) :=
  of_check (headerWord 0x19 0) "ID.BCAST" rfl rfl (by decide)

theorem bldPgn (pgn : Pgn) : Statement (.bldPgn pgn) :=
  of_check (headerWord 0x20 0) "BLD.PGN" rfl rfl (by decide)

theorem bldPrio (p : Byte) : Statement (.bldPrio p) :=
  of_check (headerWord 0x21 0) "BLD.PRIO" rfl rfl (by decide)

theorem bldSa (sa : Byte) : Statement (.bldSa sa) :=
  of_check (headerWord 0x22 0) "BLD.SA" rfl rfl (by decide)

theorem bldDa (da : Byte) : Statement (.bldDa da) :=
  of_check (headerWord 0x23 0) "BLD.DA" rfl rfl (by decide)

theorem bldBuild : Statement (.bldBuild) :=
  of_check (headerWord 0x24 0) "BLD.BUILD" rfl rfl (by decide)

theorem pgnToLe (pgn : Pgn) : Statement (.pgnToLe pgn) :=
  of_check (headerWord 0x30 0) "PGN.TOLE" rfl rfl (by decide)

theorem pgnFromLe (b0 b1 b2 : Byte) : Statement (.pgnFromLe b0 b1 b2) :=
  of_check (headerWord 0x31 0) "PGN.FROMLE" rfl rfl (by decide)

theorem slotDecU8 (raw : BitVec 8) (d : SlotDesc) : Statement (.slotDecU8 raw d) :=
  of_check (headerWord 0x40 0) "SLOT.DEC.U8" rfl rfl (by decide)

theorem slotDecU16 (raw : BitVec 16) (d : SlotDesc) : Statement (.slotDecU16 raw d) :=
  of_check (headerWord 0x40 1) "SLOT.DEC.U16" rfl rfl (by decide)

theorem slotDecU32 (raw : BitVec 32) (d : SlotDesc) : Statement (.slotDecU32 raw d) :=
  of_check (headerWord 0x40 2) "SLOT.DEC.U32" rfl rfl (by decide)

theorem slotDecI8 (raw : BitVec 8) (d : SlotDesc) : Statement (.slotDecI8 raw d) :=
  of_check (headerWord 0x40 4) "SLOT.DEC.I8" rfl rfl (by decide)

theorem slotDecI16 (raw : BitVec 16) (d : SlotDesc) : Statement (.slotDecI16 raw d) :=
  of_check (headerWord 0x40 5) "SLOT.DEC.I16" rfl rfl (by decide)

theorem slotDecI32 (raw : BitVec 32) (d : SlotDesc) : Statement (.slotDecI32 raw d) :=
  of_check (headerWord 0x40 6) "SLOT.DEC.I32" rfl rfl (by decide)

theorem slotEncU8 (value : Option Word) (d : SlotDesc) : Statement (.slotEncU8 value d) :=
  by
  cases value with
  | none => exact of_check (headerWord 0x41 0) "SLOT.ENC.U8" rfl rfl (by decide)
  | some v => exact of_check (headerWord 0x41 128) "SLOT.ENC.U8" rfl rfl (by decide)

theorem slotEncU16 (value : Option Word) (d : SlotDesc) : Statement (.slotEncU16 value d) :=
  by
  cases value with
  | none => exact of_check (headerWord 0x41 1) "SLOT.ENC.U16" rfl rfl (by decide)
  | some v => exact of_check (headerWord 0x41 129) "SLOT.ENC.U16" rfl rfl (by decide)

theorem slotEncU32 (value : Option Word) (d : SlotDesc) : Statement (.slotEncU32 value d) :=
  by
  cases value with
  | none => exact of_check (headerWord 0x41 2) "SLOT.ENC.U32" rfl rfl (by decide)
  | some v => exact of_check (headerWord 0x41 130) "SLOT.ENC.U32" rfl rfl (by decide)

theorem slotEncI8 (value : Option Word) (d : SlotDesc) : Statement (.slotEncI8 value d) :=
  by
  cases value with
  | none => exact of_check (headerWord 0x41 4) "SLOT.ENC.I8" rfl rfl (by decide)
  | some v => exact of_check (headerWord 0x41 132) "SLOT.ENC.I8" rfl rfl (by decide)

theorem slotEncI16 (value : Option Word) (d : SlotDesc) : Statement (.slotEncI16 value d) :=
  by
  cases value with
  | none => exact of_check (headerWord 0x41 5) "SLOT.ENC.I16" rfl rfl (by decide)
  | some v => exact of_check (headerWord 0x41 133) "SLOT.ENC.I16" rfl rfl (by decide)

theorem slotEncI32 (value : Option Word) (d : SlotDesc) : Statement (.slotEncI32 value d) :=
  by
  cases value with
  | none => exact of_check (headerWord 0x41 6) "SLOT.ENC.I32" rfl rfl (by decide)
  | some v => exact of_check (headerWord 0x41 134) "SLOT.ENC.I32" rfl rfl (by decide)

theorem fldGetW1 (len : BitVec 4) (k pw0 pw1 : Word) : Statement (.fldGetW1 len k pw0 pw1) :=
  of_check (headerWord 0x48 (len ++ 0#2 ++ 0#2)) "FLD.GET.W1" rfl rfl (by revert len; decide)

theorem fldGetW2 (len : BitVec 4) (k pw0 pw1 : Word) : Statement (.fldGetW2 len k pw0 pw1) :=
  of_check (headerWord 0x48 (len ++ 0#2 ++ 1#2)) "FLD.GET.W2" rfl rfl (by revert len; decide)

theorem fldGetW4 (len : BitVec 4) (k pw0 pw1 : Word) : Statement (.fldGetW4 len k pw0 pw1) :=
  of_check (headerWord 0x48 (len ++ 0#2 ++ 2#2)) "FLD.GET.W4" rfl rfl (by revert len; decide)

theorem fldPutW1 (len : BitVec 4) (k pw0 pw1 : Word) (raw : BitVec 8) : Statement (.fldPutW1 len k pw0 pw1 raw) :=
  of_check (headerWord 0x49 (len ++ 0#2 ++ 0#2)) "FLD.PUT.W1" rfl rfl (by revert len; decide)

theorem fldPutW2 (len : BitVec 4) (k pw0 pw1 : Word) (raw : BitVec 16) : Statement (.fldPutW2 len k pw0 pw1 raw) :=
  of_check (headerWord 0x49 (len ++ 0#2 ++ 1#2)) "FLD.PUT.W2" rfl rfl (by revert len; decide)

theorem fldPutW4 (len : BitVec 4) (k pw0 pw1 : Word) (raw : BitVec 32) : Statement (.fldPutW4 len k pw0 pw1 raw) :=
  of_check (headerWord 0x49 (len ++ 0#2 ++ 2#2)) "FLD.PUT.W4" rfl rfl (by revert len; decide)

theorem txbWr (a : Word) (v : Byte) : Statement (.txbWr a v) :=
  of_check (headerWord 0x50 0) "TXB.WR" rfl rfl (by decide)

theorem txsOpen (sa : Byte) (pgn : Pgn) (len : Word) : Statement (.txsOpen sa pgn len) :=
  of_check (headerWord 0x51 0) "TXS.OPEN" rfl rfl (by decide)

theorem txsCount : Statement (.txsCount) :=
  of_check (headerWord 0x52 0) "TXS.COUNT" rfl rfl (by decide)

theorem txsNext : Statement (.txsNext) :=
  of_check (headerWord 0x53 0) "TXS.NEXT" rfl rfl (by decide)

theorem txsClose : Statement (.txsClose) :=
  of_check (headerWord 0x54 0) "TXS.CLOSE" rfl rfl (by decide)

theorem rxsFeed (len : BitVec 4) (id : Ident) (pw0 pw1 : Word) : Statement (.rxsFeed len id pw0 pw1) :=
  of_check (headerWord 0x60 (0#4 ++ len)) "RXS.FEED" rfl rfl (by revert len; decide)

theorem rxsLen : Statement (.rxsLen) :=
  of_check (headerWord 0x61 0) "RXS.LEN" rfl rfl (by decide)

theorem rxsTotal : Statement (.rxsTotal) :=
  of_check (headerWord 0x62 0) "RXS.TOTAL" rfl rfl (by decide)

theorem rxsPgn : Statement (.rxsPgn) :=
  of_check (headerWord 0x63 0) "RXS.PGN" rfl rfl (by decide)

theorem rxsSa : Statement (.rxsSa) :=
  of_check (headerWord 0x64 0) "RXS.SA" rfl rfl (by decide)

theorem rxbRd (a : Word) : Statement (.rxbRd a) :=
  of_check (headerWord 0x65 0) "RXB.RD" rfl rfl (by decide)

theorem rxsClose : Statement (.rxsClose) :=
  of_check (headerWord 0x66 0) "RXS.CLOSE" rfl rfl (by decide)

theorem canId (prio : BitVec 3) (edp dp : BitVec 1) (pf ps sa : Byte) : Statement (.canId prio edp dp pf ps sa) :=
  of_check (headerWord 0x10 0) "ID.NEW" rfl rfl (by decide)

theorem canIdPdu2 (prio : BitVec 3) (edp dp : BitVec 1) (pf ps sa : Byte) : Statement (.canIdPdu2 prio edp dp pf ps sa) :=
  of_check (headerWord 0x13 0) "ID.PF" rfl rfl (by decide)

theorem pgnWire (b0 b1 : Byte) (hi : BitVec 2) : Statement (.pgnWire b0 b1 hi) :=
  of_check (headerWord 0x31 0) "PGN.FROMLE" rfl rfl (by decide)

theorem tpCmBam (id : Ident) (total : BitVec 16) (count : Byte) (pgn : Pgn) : Statement (.tpCmBam id total count pgn) :=
  of_check (headerWord 0x60 8) "RXS.FEED" rfl rfl (by decide)

theorem tpDt (id : Ident) (sq : Byte) (data : BitVec 56) : Statement (.tpDt id sq data) :=
  of_check (headerWord 0x60 8) "RXS.FEED" rfl rfl (by decide)

end Sys2Proof.Laws.HeaderShape
end

