-- ==== Sys2Proof/Laws/Safety.lean ====
section
/-! SUPPORT. The terms of the statements, by how an operation ends: outcomes that agree on a bank. -/

namespace Sys2Proof.Machine

@[simp] theorem outcomesAgree_next (bank : State → State → Prop) (t v : State) :
    outcomesAgree bank (.next t) (.next v) ↔ t.response = v.response ∧ bank t v := Iff.rfl

@[simp] theorem outcomesAgree_fault (bank : State → State → Prop) (f g : Fault) :
    outcomesAgree bank (.fault f) (.fault g) ↔ f = g := Iff.rfl

@[simp] theorem outcomesAgree_raise (bank : State → State → Prop) (st : Status) (t v : State) :
    outcomesAgree bank (raise st t) (raise st v) ↔ bank (t.answer (errorResponse st)) (v.answer (errorResponse st)) :=
  ⟨fun h => h.2, fun h => ⟨rfl, h⟩⟩

@[simp] theorem outcomesAgree_finish (bank : State → State → Prop) (a b c a' b' c' : Word) (t v : State) :
    outcomesAgree bank (finish a b c t) (finish a' b' c' v) ↔
      (okResponse a b c = okResponse a' b' c' ∧ bank (t.answer (okResponse a b c)) (v.answer (okResponse a' b' c'))) := by
  rw [finish, finish, outcomesAgree_next]; simp [State.answer]

@[simp] theorem outcomesAgree_giveFrame (bank : State → State → Prop) (id id' : Ident) (p p' : List Byte) (t v : State) :
    outcomesAgree bank (giveFrame id p t) (giveFrame id' p' v) ↔
      (frameResponse (id.setWidth 32) (payWord0 p) (payWord1 p) =
          frameResponse (id'.setWidth 32) (payWord0 p') (payWord1 p') ∧
        bank (t.answer (frameResponse (id.setWidth 32) (payWord0 p) (payWord1 p)))
          (v.answer (frameResponse (id'.setWidth 32) (payWord0 p') (payWord1 p')))) := by
  rw [giveFrame, giveFrame, outcomesAgree_next]; simp [State.answer]

end Sys2Proof.Machine
end

