-- ==== Sys2Proof/Tests/Slice0.lean ====
section
/-! SUPPORT. Tests of single operations, their expected values from spec/95_test_vectors.md and the encodings of
spec/30_encoding.md, and the witnesses that meet the hypotheses of the statements. -/

namespace Sys2Proof.Tests

open Sys2Proof Sys2Proof.Machine

/-! ### Small states -/

/-- A sender session over `total` bytes 1, 2, 3, ... of TXBUF (at most nine listed), as in 95_test_vectors.md 2.5. -/
def senderState (st : TxState) (total : Nat) (idx : Nat) : State :=
  { State.reset with
    txState := st, txSa := 0x80, txPgn := 0x0FECA, txTotal := BitVec.ofNat 11 total, txIdx := BitVec.ofNat 8 idx,
    txBuf := (List.range (min total 9)).map (fun a => (a, BitVec.ofNat 8 (a + 1))) }

/-- A receiver session as in 95_test_vectors.md 2.6, with bytes listed in RXBUF. -/
def receiverState (total len : Nat) (cells : List Host.Cell) : State :=
  { State.reset with
    rxState := .dataTransfer, rxSa := 0x80, rxPgn := 0x0FECA, rxTotal := BitVec.ofNat 11 total,
    rxLen := BitVec.ofNat 11 len, rxBuf := cells }

/-- The response to one command block in a state. -/
def answerTo (c : Command) (s : State) : Option Response :=
  match step { s with inputs := [.command c] } with
  | .next t => t.response
  | .fault _ => none
  | .refused _ => none

/-- A fact about the state after one operation. -/
def after (i : Instr) (s : State) (p : State → Bool) : Bool :=
  match exec i s with
  | .next t => p t
  | .fault _ => false
  | .refused _ => false

/-! ### Well-formedness: one ill-formed term per check -/

theorem test_ill_formed_canIdPdu2 : (Instr.canIdPdu2 6 0 0 0xEF 0 0).wellFormed = false := by decide
theorem test_well_formed_canIdPdu2 : (Instr.canIdPdu2 6 0 0 0xF0 0 0).wellFormed = true := by decide
theorem test_ill_formed_tpCmBam : (Instr.tpCmBam 0x18EBFF80 9 2 0xFECA).wellFormed = false := by decide
theorem test_ill_formed_tpCmBam_data_page : (Instr.tpCmBam 0x19ECFF80 9 2 0xFECA).wellFormed = false := by decide
theorem test_well_formed_tpCmBam : (Instr.tpCmBam 0x18ECFF80 9 2 0xFECA).wellFormed = true := by decide
theorem test_ill_formed_tpDt : (Instr.tpDt 0x18ECFF80 1 0).wellFormed = false := by decide
theorem test_well_formed_tpDt : (Instr.tpDt 0x18EBFF80 1 0).wellFormed = true := by decide
theorem test_well_formed_rxsFeed : (Instr.rxsFeed 15 0x19ECFF80 0 0).wellFormed = true := by decide

/-! ### Decoding: a word of every row, written out from its encoding (R74, R80) -/

theorem test_decode_blkReset : decode ⟨0x01000000, 0, 0, 0, 0, 0⟩ = .ok (.blkReset) := by decide
theorem test_decode_idNew : decode ⟨0x10000000, 0x8CFE6CEE, 0, 0, 0, 0⟩ = .ok (.idNew 0x8CFE6CEE) := by decide
theorem test_decode_idPrio : decode ⟨0x11000000, 0x8CFE6CEE, 0, 0, 0, 0⟩ = .ok (.idPrio 0x0CFE6CEE) := by decide
theorem test_decode_idDp : decode ⟨0x12000000, 0x8CFE6CEE, 0, 0, 0, 0⟩ = .ok (.idDp 0x0CFE6CEE) := by decide
theorem test_decode_idPf : decode ⟨0x13000000, 0x8CFE6CEE, 0, 0, 0, 0⟩ = .ok (.idPf 0x0CFE6CEE) := by decide
theorem test_decode_idPs : decode ⟨0x14000000, 0x8CFE6CEE, 0, 0, 0, 0⟩ = .ok (.idPs 0x0CFE6CEE) := by decide
theorem test_decode_idPgn : decode ⟨0x15000000, 0x8CFE6CEE, 0, 0, 0, 0⟩ = .ok (.idPgn 0x0CFE6CEE) := by decide
theorem test_decode_idDa : decode ⟨0x16000000, 0x8CFE6CEE, 0, 0, 0, 0⟩ = .ok (.idDa 0x0CFE6CEE) := by decide
theorem test_decode_idGe : decode ⟨0x17000000, 0x8CFE6CEE, 0, 0, 0, 0⟩ = .ok (.idGe 0x0CFE6CEE) := by decide
theorem test_decode_idSa : decode ⟨0x18000000, 0x8CFE6CEE, 0, 0, 0, 0⟩ = .ok (.idSa 0x0CFE6CEE) := by decide
theorem test_decode_idBcast : decode ⟨0x19000000, 0x8CFE6CEE, 0, 0, 0, 0⟩ = .ok (.idBcast 0x0CFE6CEE) := by decide
theorem test_decode_bldPgn : decode ⟨0x20000000, 0xFFFFFFFF, 0, 0, 0, 0⟩ = .ok (.bldPgn 0x3FFFF) := by decide
theorem test_decode_bldPrio : decode ⟨0x21000000, 0x00000107, 0, 0, 0, 0⟩ = .ok (.bldPrio 7) := by decide
theorem test_decode_bldSa : decode ⟨0x22000000, 0x00001234, 0, 0, 0, 0⟩ = .ok (.bldSa 0x34) := by decide
theorem test_decode_bldDa : decode ⟨0x23000000, 0x00000155, 0, 0, 0, 0⟩ = .ok (.bldDa 0x55) := by decide
theorem test_decode_bldBuild : decode ⟨0x24000000, 0x00000005, 0, 0, 0, 0⟩ = .ok (.bldBuild) := by decide
theorem test_decode_pgnToLe : decode ⟨0x30000000, 0x12345678, 0, 0, 0, 0⟩ = .ok (.pgnToLe 0x05678) := by decide
theorem test_decode_pgnFromLe :
    decode ⟨0x31000000, 0xAB03F1CA, 0, 0, 0, 0⟩ = .ok (.pgnFromLe 0xCA 0xF1 0x03) := by decide
theorem test_decode_slotDecU8 :
    decode ⟨0x40000000, 0x12345607, 0x3F800000, 0xC2200000, 0xC2200000, 0x43520000⟩ = .ok (.slotDecU8 0x07 ⟨0x3F800000, 0xC2200000, 0xC2200000, 0x43520000⟩) := by decide
theorem test_decode_slotDecU16 :
    decode ⟨0x40010000, 0x12345607, 0x3F800000, 0xC2200000, 0xC2200000, 0x43520000⟩ = .ok (.slotDecU16 0x5607 ⟨0x3F800000, 0xC2200000, 0xC2200000, 0x43520000⟩) := by decide
theorem test_decode_slotDecU32 :
    decode ⟨0x40020000, 0x12345607, 0x3F800000, 0xC2200000, 0xC2200000, 0x43520000⟩ = .ok (.slotDecU32 0x12345607 ⟨0x3F800000, 0xC2200000, 0xC2200000, 0x43520000⟩) := by decide
theorem test_decode_slotDecI8 :
    decode ⟨0x40040000, 0x12345607, 0x3F800000, 0xC2200000, 0xC2200000, 0x43520000⟩ = .ok (.slotDecI8 0x07 ⟨0x3F800000, 0xC2200000, 0xC2200000, 0x43520000⟩) := by decide
theorem test_decode_slotDecI16 :
    decode ⟨0x40050000, 0x12345607, 0x3F800000, 0xC2200000, 0xC2200000, 0x43520000⟩ = .ok (.slotDecI16 0x5607 ⟨0x3F800000, 0xC2200000, 0xC2200000, 0x43520000⟩) := by decide
theorem test_decode_slotDecI32 :
    decode ⟨0x40060000, 0x12345607, 0x3F800000, 0xC2200000, 0xC2200000, 0x43520000⟩ = .ok (.slotDecI32 0x12345607 ⟨0x3F800000, 0xC2200000, 0xC2200000, 0x43520000⟩) := by decide
theorem test_decode_slotEncU8 :
    decode ⟨0x41800000, 0x447A0000, 0x3F800000, 0xC2200000, 0xC2200000, 0x43520000⟩ = .ok (.slotEncU8 (some 0x447A0000) ⟨0x3F800000, 0xC2200000, 0xC2200000, 0x43520000⟩) := by decide
theorem test_decode_slotEncU8_none :
    decode ⟨0x41000000, 0x447A0000, 0x3F800000, 0xC2200000, 0xC2200000, 0x43520000⟩ = .ok (.slotEncU8 none ⟨0x3F800000, 0xC2200000, 0xC2200000, 0x43520000⟩) := by decide
theorem test_decode_slotEncU16 :
    decode ⟨0x41810000, 0x447A0000, 0x3F800000, 0xC2200000, 0xC2200000, 0x43520000⟩ = .ok (.slotEncU16 (some 0x447A0000) ⟨0x3F800000, 0xC2200000, 0xC2200000, 0x43520000⟩) := by decide
theorem test_decode_slotEncU16_none :
    decode ⟨0x41010000, 0x447A0000, 0x3F800000, 0xC2200000, 0xC2200000, 0x43520000⟩ = .ok (.slotEncU16 none ⟨0x3F800000, 0xC2200000, 0xC2200000, 0x43520000⟩) := by decide
theorem test_decode_slotEncU32 :
    decode ⟨0x41820000, 0x447A0000, 0x3F800000, 0xC2200000, 0xC2200000, 0x43520000⟩ = .ok (.slotEncU32 (some 0x447A0000) ⟨0x3F800000, 0xC2200000, 0xC2200000, 0x43520000⟩) := by decide
theorem test_decode_slotEncU32_none :
    decode ⟨0x41020000, 0x447A0000, 0x3F800000, 0xC2200000, 0xC2200000, 0x43520000⟩ = .ok (.slotEncU32 none ⟨0x3F800000, 0xC2200000, 0xC2200000, 0x43520000⟩) := by decide
theorem test_decode_slotEncI8 :
    decode ⟨0x41840000, 0x447A0000, 0x3F800000, 0xC2200000, 0xC2200000, 0x43520000⟩ = .ok (.slotEncI8 (some 0x447A0000) ⟨0x3F800000, 0xC2200000, 0xC2200000, 0x43520000⟩) := by decide
theorem test_decode_slotEncI8_none :
    decode ⟨0x41040000, 0x447A0000, 0x3F800000, 0xC2200000, 0xC2200000, 0x43520000⟩ = .ok (.slotEncI8 none ⟨0x3F800000, 0xC2200000, 0xC2200000, 0x43520000⟩) := by decide
theorem test_decode_slotEncI16 :
    decode ⟨0x41850000, 0x447A0000, 0x3F800000, 0xC2200000, 0xC2200000, 0x43520000⟩ = .ok (.slotEncI16 (some 0x447A0000) ⟨0x3F800000, 0xC2200000, 0xC2200000, 0x43520000⟩) := by decide
theorem test_decode_slotEncI16_none :
    decode ⟨0x41050000, 0x447A0000, 0x3F800000, 0xC2200000, 0xC2200000, 0x43520000⟩ = .ok (.slotEncI16 none ⟨0x3F800000, 0xC2200000, 0xC2200000, 0x43520000⟩) := by decide
theorem test_decode_slotEncI32 :
    decode ⟨0x41860000, 0x447A0000, 0x3F800000, 0xC2200000, 0xC2200000, 0x43520000⟩ = .ok (.slotEncI32 (some 0x447A0000) ⟨0x3F800000, 0xC2200000, 0xC2200000, 0x43520000⟩) := by decide
theorem test_decode_slotEncI32_none :
    decode ⟨0x41060000, 0x447A0000, 0x3F800000, 0xC2200000, 0xC2200000, 0x43520000⟩ = .ok (.slotEncI32 none ⟨0x3F800000, 0xC2200000, 0xC2200000, 0x43520000⟩) := by decide
theorem test_decode_fldGetW1 :
    decode ⟨0x48A00000, 0x00000003, 0x007DFFF0, 0xFFFFFF32, 0, 0⟩ = .ok (.fldGetW1 10 3 0x007DFFF0 0xFFFFFF32) := by decide
theorem test_decode_fldGetW2 :
    decode ⟨0x48A10000, 0x00000003, 0x007DFFF0, 0xFFFFFF32, 0, 0⟩ = .ok (.fldGetW2 10 3 0x007DFFF0 0xFFFFFF32) := by decide
theorem test_decode_fldGetW4 :
    decode ⟨0x48A20000, 0x00000003, 0x007DFFF0, 0xFFFFFF32, 0, 0⟩ = .ok (.fldGetW4 10 3 0x007DFFF0 0xFFFFFF32) := by decide
theorem test_decode_fldPutW1 :
    decode ⟨0x49300000, 0x00000001, 0x44332211, 0x88776655, 0x00ABCD7D, 0⟩ = .ok (.fldPutW1 3 1 0x44332211 0x88776655 0x7D) := by decide
theorem test_decode_fldPutW2 :
    decode ⟨0x49310000, 0x00000001, 0x44332211, 0x88776655, 0x00ABCD7D, 0⟩ = .ok (.fldPutW2 3 1 0x44332211 0x88776655 0xCD7D) := by decide
theorem test_decode_fldPutW4 :
    decode ⟨0x49320000, 0x00000001, 0x44332211, 0x88776655, 0x00ABCD7D, 0⟩ = .ok (.fldPutW4 3 1 0x44332211 0x88776655 0x00ABCD7D) := by decide
theorem test_decode_txbWr :
    decode ⟨0x50000000, 0x000006F8, 0x000001AA, 0, 0, 0⟩ = .ok (.txbWr 0x6F8 0xAA) := by decide
theorem test_decode_txsOpen :
    decode ⟨0x51000000, 0x000001FF, 0xFFFFFFFF, 0x00000009, 0, 0⟩ = .ok (.txsOpen 0xFF 0x3FFFF 9) := by decide
theorem test_decode_txsCount : decode ⟨0x52000000, 0, 0, 0, 0, 0⟩ = .ok (.txsCount) := by decide
theorem test_decode_txsNext : decode ⟨0x53000000, 0, 0, 0, 0, 0⟩ = .ok (.txsNext) := by decide
theorem test_decode_txsClose : decode ⟨0x54000000, 0, 0, 0, 0, 0⟩ = .ok (.txsClose) := by decide
theorem test_decode_rxsFeed :
    decode ⟨0x600F0000, 0x98EC0001, 0x02000920, 0x00FECAFF, 0, 0⟩ = .ok (.rxsFeed 15 0x18EC0001 0x02000920 0x00FECAFF) := by decide
theorem test_decode_rxsLen : decode ⟨0x61000000, 0, 0, 0, 0, 0⟩ = .ok (.rxsLen) := by decide
theorem test_decode_rxsTotal : decode ⟨0x62000000, 0, 0, 0, 0, 0⟩ = .ok (.rxsTotal) := by decide
theorem test_decode_rxsPgn : decode ⟨0x63000000, 0, 0, 0, 0, 0⟩ = .ok (.rxsPgn) := by decide
theorem test_decode_rxsSa : decode ⟨0x64000000, 0, 0, 0, 0, 0⟩ = .ok (.rxsSa) := by decide
theorem test_decode_rxbRd : decode ⟨0x65000000, 0x00000008, 0, 0, 0, 0⟩ = .ok (.rxbRd 8) := by decide
theorem test_decode_rxsClose : decode ⟨0x66000000, 0, 0, 0, 0, 0⟩ = .ok (.rxsClose) := by decide

theorem test_decode_canId : decodeTableWord 32 0x00EA2133 = some (.canId 0 0 0 0xEA 0x21 0x33) := by decide
theorem test_decode_canIdPdu2 : decodeTableWord 32 0x00F06CEE = some (.canIdPdu2 0 0 0 0xF0 0x6C 0xEE) := by decide
theorem test_decode_pgnWire : decodeTableWord 24 0x04F001 = some (.pgnWire 0x04 0xF0 1) := by decide
theorem test_decode_tpCmBam : decodeTableWord 32 0x00ECFF80 = some (.tpCmBam 0x00ECFF80 0 0 0) := by decide
theorem test_decode_tpDt : decodeTableWord 32 0x00EBFF80 = some (.tpDt 0x00EBFF80 0 0) := by decide
theorem test_decode_29_bits : decodeTableWord 29 0x18EAFF00 = some (.canId 6 0 0 0xEA 0xFF 0x00) := by decide
theorem test_decode_table_word : decodeTableWord 32 0x11000000 = some (.idPrio 0) := by decide

/-! ### Illegal blocks (95_test_vectors.md 2.7) -/

theorem test_illegal_all_zero : decode ⟨0, 0, 0, 0, 0, 0⟩ = .illegal .unassignedOp := by decide
theorem test_illegal_op_67 : decode ⟨0x67000000, 0, 0, 0, 0, 0⟩ = .illegal .unassignedOp := by decide
theorem test_illegal_low_half : decode ⟨0x11000001, 0x18EAFF00, 0, 0, 0, 0⟩ = .illegal .reservedWord := by decide
theorem test_illegal_mod_of_id : decode ⟨0x11010000, 0x18EAFF00, 0, 0, 0, 0⟩ = .illegal .reservedMod := by decide
theorem test_illegal_type_3 : decode ⟨0x40030000, 0, 0, 0, 0, 0⟩ = .illegal .illegalType := by decide
theorem test_illegal_type_7 : decode ⟨0x40070000, 0, 0, 0, 0, 0⟩ = .illegal .illegalType := by decide
theorem test_illegal_some_of_dec : decode ⟨0x40800000, 0, 0, 0, 0, 0⟩ = .illegal .reservedMod := by decide
theorem test_illegal_mod_of_enc : decode ⟨0x41080000, 0, 0, 0, 0, 0⟩ = .illegal .reservedMod := by decide
theorem test_illegal_width_3 : decode ⟨0x48830000, 0, 0, 0, 0, 0⟩ = .illegal .illegalType := by decide
theorem test_illegal_mod3_of_get : decode ⟨0x48890000, 0, 0, 0, 0, 0⟩ = .illegal .reservedMod := by decide
theorem test_illegal_feed_mod : decode ⟨0x60180000, 0x18ECFF80, 0, 0, 0, 0⟩ = .illegal .reservedMod := by decide
theorem test_illegal_open_mod : decode ⟨0x51010000, 0, 0, 0x000006FA, 0, 0⟩ = .illegal .reservedMod := by decide
theorem test_illegal_answer : answerTo ⟨0, 0, 0, 0, 0, 0⟩ State.reset = some ⟨3, 0, 0, 0⟩ := by decide
theorem test_sign_bit_of_get_ignored : decode ⟨0x48850000, 3, 0x007DFFF0, 0xFFFFFF32, 0, 0⟩ =
    .ok (.fldGetW2 8 3 0x007DFFF0 0xFFFFFF32) := by decide

/-! ### Encoding: the blocks of 95_test_vectors.md -/

theorem test_encode_fldPutW2 : encode (.fldPutW2 8 3 0xFFFFFFFF 0xFFFFFFFF 0x3200) =
    ⟨0x49810000, 3, 0xFFFFFFFF, 0xFFFFFFFF, 0x3200, 0⟩ := by decide
theorem test_encode_slotEncU16 : encode (.slotEncU16 (some 0x447A0000) ⟨0x3E000000, 0, 0, 0x45FAFF00⟩) =
    ⟨0x41810000, 0x447A0000, 0x3E000000, 0, 0, 0x45FAFF00⟩ := by decide
theorem test_encode_tpCmBam : encode (.tpCmBam 0x18ECFF80 9 2 0xFECA) =
    ⟨0x60080000, 0x18ECFF80, 0x02000920, 0x00FECAFF, 0, 0⟩ := by decide
theorem test_encode_tpDt : encode (.tpDt 0x18EBFF80 1 0x07060504030201) =
    ⟨0x60080000, 0x18EBFF80, 0x03020101, 0x07060504, 0, 0⟩ := by decide

/-! ### One operation each (95_test_vectors.md sections 1 to 4) -/

theorem test_blkReset :
    after (.blkReset) (senderState .dataTransfer 9 1) (fun t => t.bldPri = 6 ∧ t.txState = .idle ∧ t.rxState = .idle ∧ t.readByte .txBuf 0 = none) = true := by decide
theorem test_idNew : responseOf (.idNew 0x98EA2100) State.reset = some ⟨0, 0x18EA2100, 0, 0⟩ := by decide
theorem test_idPrio : responseOf (.idPrio 0x0CFE6CEE) State.reset = some ⟨0, 3, 0, 0⟩ := by decide
theorem test_idDp : responseOf (.idDp 0x19F00400) State.reset = some ⟨0, 1, 0, 0⟩ := by decide
theorem test_idDp_edp : responseOf (.idDp 0x1AF00400) State.reset = some ⟨0, 0, 0, 0⟩ := by decide
theorem test_idPf : responseOf (.idPf 0x1CEFFF21) State.reset = some ⟨0, 0xEF, 0, 0⟩ := by decide
theorem test_idPf_pdu2 : responseOf (.idPf 0x1CF00021) State.reset = some ⟨0, 0x1F0, 0, 0⟩ := by decide
theorem test_idPs : responseOf (.idPs 0x0CFE6CEE) State.reset = some ⟨0, 0x6C, 0, 0⟩ := by decide
theorem test_idPgn : responseOf (.idPgn 0x1BEA2133) State.reset = some ⟨0, 0x3EA00, 0, 0⟩ := by decide
theorem test_idPgn_pdu2 : responseOf (.idPgn 0x1AF00400) State.reset = some ⟨0, 0x2F004, 0, 0⟩ := by decide
theorem test_idDa : responseOf (.idDa 0x00000000) State.reset = some ⟨0, 0x100, 0, 0⟩ := by decide
theorem test_idDa_pdu2 : responseOf (.idDa 0x1CF00021) State.reset = some ⟨0, 0, 0, 0⟩ := by decide
theorem test_idGe : responseOf (.idGe 0x1CF00021) State.reset = some ⟨0, 0x100, 0, 0⟩ := by decide
theorem test_idGe_pdu1 : responseOf (.idGe 0x1CEFFF21) State.reset = some ⟨0, 0, 0, 0⟩ := by decide
theorem test_idSa : responseOf (.idSa 0x0CFE6CEE) State.reset = some ⟨0, 0xEE, 0, 0⟩ := by decide
theorem test_idBcast : responseOf (.idBcast 0x18EAFF00) State.reset = some ⟨0, 1, 0, 0⟩ := by decide
theorem test_idBcast_pdu1 : responseOf (.idBcast 0x1DEC0A05) State.reset = some ⟨0, 0, 0, 0⟩ := by decide
theorem test_bldPgn :
    after (.bldPgn 0xFEF1) { State.reset with bldPri := 2, bldSa := 0x34, bldDa := 1 } (fun t => t.bldPgn = 0xFEF1 ∧ t.bldPri = 6 ∧ t.bldSa = 0 ∧ t.bldDa = 0) = true := by decide
theorem test_bldPrio : after (.bldPrio 9) State.reset (fun t => t.bldPri = 7) = true := by decide
theorem test_bldSa : after (.bldSa 0x34) State.reset (fun t => t.bldSa = 0x34 ∧ t.bldPri = 6) = true := by decide
theorem test_bldDa : after (.bldDa 0x55) State.reset (fun t => t.bldDa = 0x55 ∧ t.bldSa = 0) = true := by decide
theorem test_bldBuild :
    responseOf (.bldBuild) { State.reset with bldPgn := 0xEA12, bldDa := 0x21 } = some ⟨0, 0x18EA3300, 0, 0⟩ := by decide
theorem test_bldBuild_pdu2 :
    responseOf (.bldBuild) { State.reset with bldPgn := 0xF000, bldPri := 0, bldSa := 1, bldDa := 0xAA } = some ⟨0, 0xF00001, 0, 0⟩ := by decide
theorem test_pgnToLe : responseOf (.pgnToLe 0x1F004) State.reset = some ⟨0, 0x1F004, 0, 0⟩ := by decide
theorem test_pgnFromLe : responseOf (.pgnFromLe 0x00 0xEA 0xFF) State.reset = some ⟨0, 0x3EA00, 0, 0⟩ := by decide
theorem test_slotDecU8 :
    responseOf (.slotDecU8 0x7D ⟨0x3F800000, 0xC2200000, 0xC2200000, 0x43520000⟩) State.reset = some ⟨0, 0x42AA0000, 1, 0⟩ := by decide +kernel
theorem test_slotDecU8_none :
    responseOf (.slotDecU8 0xFF ⟨0x3F800000, 0xC2200000, 0xC2200000, 0x43520000⟩) State.reset = some ⟨0, 0, 0, 0⟩ := by decide +kernel
theorem test_slotDecU16 :
    responseOf (.slotDecU16 0x1F40 ⟨0x3E000000, 0, 0, 0x45FAFF00⟩) State.reset = some ⟨0, 0x447A0000, 1, 0⟩ := by decide +kernel
theorem test_slotDecU16_clamped :
    responseOf (.slotDecU16 0xFFFE ⟨0x3E000000, 0, 0, 0x45FAFF00⟩) State.reset = some ⟨0, 0x45FAFF00, 1, 0⟩ := by decide +kernel
theorem test_slotDecU32 :
    responseOf (.slotDecU32 0x01000003 ⟨0x3F800000, 0, 0, 0x4F800000⟩) State.reset = some ⟨0, 0x4B800002, 1, 0⟩ := by decide +kernel
theorem test_slotDecU32_tie :
    responseOf (.slotDecU32 0xFFFFFF80 ⟨0x3F800000, 0, 0, 0x4F800000⟩) State.reset = some ⟨0, 0x4F800000, 1, 0⟩ := by decide +kernel
theorem test_slotDecI8 :
    responseOf (.slotDecI8 0xFE ⟨0x3F000000, 0, 0xC2480000, 0x42480000⟩) State.reset = some ⟨0, 0xBF800000, 1, 0⟩ := by decide +kernel
theorem test_slotDecI16 :
    responseOf (.slotDecI16 0x8301 ⟨0x3C000000, 0, 0xC37A0000, 0x437A0000⟩) State.reset = some ⟨0, 0xC379FE00, 1, 0⟩ := by decide +kernel
theorem test_slotDecI32 :
    responseOf (.slotDecI32 0xF8000000 ⟨0x33D6BF95, 0, 0xC3520000, 0x43520000⟩) State.reset = some ⟨0, 0xC156BF95, 1, 0⟩ := by decide +kernel
theorem test_slotDecI8_domain :
    responseOf (.slotDecI8 0xFF ⟨0, 0, 0, 0⟩) State.reset = some ⟨9, 0, 0, 0⟩ := by decide +kernel
theorem test_slotEncU8 :
    responseOf (.slotEncU8 (some 0x42ABCCCD) ⟨0x3F800000, 0xC2200000, 0xC2200000, 0x43520000⟩) State.reset = some ⟨0, 0x7D, 0, 0⟩ := by decide +kernel
theorem test_slotEncU8_infinity :
    responseOf (.slotEncU8 (some 0x7F800000) ⟨0x3F800000, 0xC2200000, 0xC2200000, 0x43520000⟩) State.reset = some ⟨0, 0xFA, 0, 0⟩ := by decide +kernel
theorem test_slotEncU16 :
    responseOf (.slotEncU16 (some 0x44C80333) ⟨0x3E000000, 0, 0, 0x45FAFF00⟩) State.reset = some ⟨0, 0x3200, 0, 0⟩ := by decide +kernel
theorem test_slotEncU16_none :
    responseOf (.slotEncU16 none ⟨0x3E000000, 0, 0, 0x45FAFF00⟩) State.reset = some ⟨0, 0xFFFF, 0, 0⟩ := by decide +kernel
theorem test_slotEncU32 :
    responseOf (.slotEncU32 (some 0x4F7FFFFF) ⟨0x3F800000, 0, 0, 0x4F800000⟩) State.reset = some ⟨0, 0xFFFFFF00, 0, 0⟩ := by decide +kernel
theorem test_slotEncU32_saturates :
    responseOf (.slotEncU32 (some 0x4F9502F9) ⟨0x3F800000, 0, 0, 0x4F800000⟩) State.reset = some ⟨0, 0xFFFFFFFF, 0, 0⟩ := by decide +kernel
theorem test_slotEncI8 :
    responseOf (.slotEncI8 (some 0xBE800000) ⟨0x3F000000, 0, 0xC2480000, 0x42480000⟩) State.reset = some ⟨0, 0, 0, 0⟩ := by decide +kernel
theorem test_slotEncI8_negative :
    responseOf (.slotEncI8 (some 0xC2480000) ⟨0x3F000000, 0, 0xC2480000, 0x42480000⟩) State.reset = some ⟨0, 0x9C, 0, 0⟩ := by decide +kernel
theorem test_slotEncI16 :
    responseOf (.slotEncI16 (some 0xBF800000) ⟨0x3C000000, 0, 0xC37A0000, 0x437A0000⟩) State.reset = some ⟨0, 0xFF80, 0, 0⟩ := by decide +kernel
theorem test_slotEncI16_sentinel :
    responseOf (.slotEncI16 (some 0xBC000000) ⟨0x3C000000, 0, 0xC37A0000, 0x437A0000⟩) State.reset = some ⟨0, 0xFFFF, 0, 0⟩ := by decide +kernel
theorem test_slotEncI32 :
    responseOf (.slotEncI32 (some 0xBF800000) ⟨0x33D6BF95, 0, 0xC3520000, 0x43520000⟩) State.reset = some ⟨0, 0xFF676980, 0, 0⟩ := by decide +kernel
theorem test_slotEncI32_nan :
    responseOf (.slotEncI32 (some 0x7FC00000) ⟨0x33D6BF95, 0, 0xC3520000, 0x43520000⟩) State.reset = some ⟨9, 0, 0, 0⟩ := by decide +kernel

/-! Two pure functions of 95_test_vectors.md section 3.1 and 41_slot.md section 1 -/

theorem test_intToF32_tie : intToF32 16777217 = .fin false (2 ^ 23) 1 := by decide +kernel
theorem test_intToF32_carry : intToF32 0xFFFFFF80 = .fin false (2 ^ 23) 9 := by decide +kernel
theorem test_f32Mul_negative_zero : f32ToBits (f32Mul (f32OfBits 0) (f32OfBits 0xBF800000)) = 0x80000000 := by
  decide +kernel

theorem test_fldGetW1 :
    responseOf (.fldGetW1 15 7 0x007DFFF0 0xFFFFFF32) State.reset = some ⟨0, 0xFF, 0, 0⟩ := by decide
theorem test_fldGetW1_short :
    responseOf (.fldGetW1 0 0 0x007DFFF0 0xFFFFFF32) State.reset = some ⟨1, 0, 0, 0⟩ := by decide
theorem test_fldGetW2 :
    responseOf (.fldGetW2 8 3 0x007DFFF0 0xFFFFFF32) State.reset = some ⟨0, 0x3200, 0, 0⟩ := by decide
theorem test_fldGetW2_no_wrap :
    responseOf (.fldGetW2 8 0xFFFFFFFF 0x007DFFF0 0xFFFFFF32) State.reset = some ⟨1, 0, 0, 0⟩ := by decide
theorem test_fldGetW4 :
    responseOf (.fldGetW4 8 1 0x04030201 0x08070605) State.reset = some ⟨0, 0x5040302, 0, 0⟩ := by decide
theorem test_fldGetW4_short :
    responseOf (.fldGetW4 8 5 0x007DFFF0 0xFFFFFF32) State.reset = some ⟨1, 0, 0, 0⟩ := by decide
theorem test_fldPutW1 :
    responseOf (.fldPutW1 8 2 0xFFFFFFFF 0xFFFFFFFF 0x7D) State.reset = some ⟨0, 0, 0xFF7DFFFF, 0xFFFFFFFF⟩ := by decide
theorem test_fldPutW2 :
    responseOf (.fldPutW2 3 1 0x44332211 0x88776655 0xBEEF) State.reset = some ⟨0, 0, 0x44BEEF11, 0x88776655⟩ := by decide
theorem test_fldPutW2_short :
    responseOf (.fldPutW2 3 2 0x44332211 0x88776655 0xBEEF) State.reset = some ⟨1, 0, 0, 0⟩ := by decide
theorem test_fldPutW4 :
    responseOf (.fldPutW4 8 4 0 0 0xDEADBEEF) State.reset = some ⟨0, 0, 0, 0xDEADBEEF⟩ := by decide
theorem test_txbWr :
    after (.txbWr 1784 0xAA) State.reset (fun t => t.readByte .txBuf 1784 = some 0xAA ∧ t.readByte .txBuf 1783 = none) = true := by decide
theorem test_txbWr_busy :
    responseOf (.txbWr 0 0) (senderState .connectionManagement 0 0) = some ⟨6, 0, 0, 0⟩ := by decide
theorem test_txsOpen :
    after (.txsOpen 0xFF 0x3FFFF 0) State.reset (fun t => t.txState = .connectionManagement ∧ t.txSa = 0xFF ∧ t.txPgn = 0x3FFFF ∧ t.txTotal = 0) = true := by decide
theorem test_txsOpen_length : responseOf (.txsOpen 1 2 1786) State.reset = some ⟨8, 0, 0, 0⟩ := by decide
theorem test_txsCount : responseOf (.txsCount) (senderState .dataTransfer 1779 0) = some ⟨0, 0xFF, 0, 0⟩ := by decide
theorem test_txsCount_seven : responseOf (.txsCount) (senderState .dataTransfer 7 0) = some ⟨0, 1, 0, 0⟩ := by decide
theorem test_txsNext_bam :
    responseOf (.txsNext) (senderState .connectionManagement 9 77) = some ⟨0x800, 0x18ECFF80, 0x2000920, 0xFECAFF⟩ := by decide
theorem test_txsNext_last :
    responseOf (.txsNext) (senderState .dataTransfer 9 1) = some ⟨0x800, 0x18EBFF80, 0xFF090802, 0xFFFFFFFF⟩ := by decide
theorem test_txsClose :
    after (.txsClose) (senderState .dataTransfer 9 2) (fun t => t.txState = .idle ∧ t.readByte .txBuf 8 = some 9) = true := by decide
theorem test_rxsFeed_bam :
    after (.rxsFeed 15 0x18ECFF80 0x0006F920 0xFFFECA00) (receiverState 9 9 [(0, 1)]) (fun t => t.rxTotal = 1785 ∧ t.rxPgn = 0x3FECA ∧ t.rxLen = 0 ∧ t.rxBuf = []) = true := by decide
theorem test_rxsFeed_data :
    after (.rxsFeed 8 0x18EBFF80 0x11100F03 0x15141312) (receiverState 20 0 []) (fun t => t.rxLen = 20 ∧ t.rxBuf = [(14, 0x0F), (15, 0x10), (16, 0x11), (17, 0x12), (18, 0x13), (19, 0x14)]) = true := by decide
theorem test_rxsLen : responseOf (.rxsLen) (receiverState 9 7 []) = some ⟨0, 7, 0, 0⟩ := by decide
theorem test_rxsLen_idle : responseOf (.rxsLen) State.reset = some ⟨4, 0, 0, 0⟩ := by decide
theorem test_rxsTotal : responseOf (.rxsTotal) (receiverState 9 7 []) = some ⟨0, 9, 0, 0⟩ := by decide
theorem test_rxsPgn : responseOf (.rxsPgn) (receiverState 9 7 []) = some ⟨0, 0xFECA, 0, 0⟩ := by decide
theorem test_rxsSa : responseOf (.rxsSa) (receiverState 9 7 []) = some ⟨0, 0x80, 0, 0⟩ := by decide
theorem test_rxbRd : responseOf (.rxbRd 8) (receiverState 9 9 [(8, 9)]) = some ⟨0, 9, 0, 0⟩ := by decide
theorem test_rxbRd_no_storage :
    responseOf (.rxbRd 1785) (receiverState 1786 1786 []) = some ⟨7, 0, 0, 0⟩ := by decide
theorem test_rxsClose : after (.rxsClose) (receiverState 9 9 []) (fun t => t.rxState = .idle) = true := by decide
theorem test_canId : responseOf (.canId 6 0 0 0xEA 0xFF 0x00) State.reset = some ⟨0, 0x18EAFF00, 0, 0⟩ := by decide
theorem test_canIdPdu2 :
    responseOf (.canIdPdu2 3 0 0 0xFE 0x6C 0xEE) State.reset = some ⟨0, 0x1FE, 0, 0⟩ := by decide
theorem test_pgnWire : responseOf (.pgnWire 0x04 0xF0 1) State.reset = some ⟨0, 0x1F004, 0, 0⟩ := by decide
theorem test_tpCmBam :
    after (.tpCmBam 0x18ECFF80 9 2 0xFECA) State.reset (fun t => t.rxState = .dataTransfer ∧ t.rxTotal = 9 ∧ t.rxPgn = 0xFECA ∧ t.rxSa = 0x80 ∧ t.rxLen = 0) = true := by decide
theorem test_tpDt :
    after (.tpDt 0x18EBFF80 2 0xFFFFFFFFFF0908) (receiverState 9 0 []) (fun t => t.rxLen = 9 ∧ t.rxBuf = [(7, 8), (8, 9)]) = true := by decide

/-- DT 1 before any BAM frame, as a command block (95_test_vectors.md, program P5). -/
theorem test_step_protocol_violation :
    answerTo ⟨0x60080000, 0x18EBFF80, 0x03020101, 0x07060504, 0, 0⟩ State.reset = some ⟨2, 0, 0, 0⟩ := by decide
theorem test_step_not_transport : answerTo ⟨0x60080000, 0x19ECFF80, 0, 0, 0, 0⟩ State.reset = some ⟨10, 0, 0, 0⟩ := by
  decide
theorem test_step_placed_word : ∃ t, step (State.reset.withFetchWord 32 0x24000000) = .next t ∧
    t.response = some ⟨0, 0x18000000, 0, 0⟩ ∧ t.inputs = [] := ⟨_, rfl, by decide⟩

/-! ### Witnesses: states and operands that meet the hypotheses of each statement, one per clause -/

theorem test_witness_HardwareReset :
    ∃ (s : State) (rest : List Input), s.inputs = .hardReset :: rest :=
  ⟨{ senderState .dataTransfer 9 1 with inputs := [.hardReset] }, _, rfl⟩

theorem test_witness_StepKeepsTheInvariant :
    ∃ s t : State, s.inv ∧ step s = .next t :=
  ⟨{ receiverState 1785 1784 [(1783, 5)] with inputs := [.command ⟨0x60080000, 0x18EBFF80, 0x030201FF, 0, 0, 0⟩] }, _, by decide, rfl⟩

theorem test_witness_IndexBoundInConnectionManagement :
    ∃ s t : State, s.inv24 ∧ step s = .next t :=
  ⟨{ State.reset with txIdx := 200, inputs := [.command ⟨0x51000000, 1, 2, 9, 0, 0⟩] }, _, by decide, rfl⟩

theorem test_witness_StatedBounds :
    ∃ s t : State, s.inv24 ∧ step s = .next t ∧ ∀ (c : Command) (rest : List Input) (sa : Byte) (pgn : Pgn) (len : Word),
      s.inputs = .command c :: rest → decode c = .ok (.txsOpen sa pgn len) → len.toNat ≤ 1785 → s.txIdx.toNat ≤ (len.toNat + 6) / 7 :=
  ⟨{ senderState .dataTransfer 1785 255 with inputs := [.command ⟨0x51000000, 1, 2, 1785, 0, 0⟩] }, _, by decide, rfl, by
    intro c rest sa pgn len h hd _
    cases h
    have h2 : len = 1785 := by
      have h3 : decode ⟨0x51000000, 1, 2, 1785, 0, 0⟩ = .ok (.txsOpen 1 2 1785) := by decide
      rw [h3] at hd; cases hd; rfl
    subst h2; decide⟩

theorem test_witness_StatedBounds_other :
    ∃ s t : State, s.inv24 ∧ step s = .next t ∧ ∀ (c : Command) (rest : List Input), s.inputs ≠ .command c :: rest :=
  ⟨{ senderState .dataTransfer 1785 255 with inputs := [.hardReset] }, _, by decide, rfl, fun _ _ h => by cases h⟩

theorem test_witness_DecodeOfEncode :
    ∃ i : Instr, i.isWire = false :=
  ⟨.fldPutW4 15 0xFFFFFFFF 1 2 0xFFFFFFFF, rfl⟩

theorem test_witness_WireRows :
    ∃ i : Instr, i.isWire = true :=
  ⟨.tpDt 0x18EBFF80 255 0, rfl⟩

theorem test_witness_IllegalBlocks_illegal :
    ∃ (s : State) (c : Command) (rest : List Input), s.inputs = .command c :: rest ∧ illegalHeader c.w0 :=
  ⟨{ State.reset with inputs := [.command ⟨0x48030000, 0, 0, 0, 0, 0⟩] }, _, _, rfl, by unfold illegalHeader; decide⟩

theorem test_witness_IllegalBlocks_legal :
    ∃ (s : State) (c : Command) (rest : List Input), s.inputs = .command c :: rest ∧ ¬ illegalHeader c.w0 :=
  ⟨{ State.reset with inputs := [.command ⟨0x48F60000, 0, 0, 0, 0, 0⟩] }, _, _, rfl, by unfold illegalHeader; decide⟩

theorem test_witness_TableRows_match :
    ∃ (c : Command) (r : OpRow), r ∈ opTable ∧ r.matches c = true :=
  ⟨⟨0x41860000, 0, 0, 0, 0, 0⟩, ⟨"SLOT.ENC.I32", 0x41060000, 0xFF7FFFFF⟩, by decide, by decide⟩

theorem test_witness_TableRows_no_match :
    ∃ c : Command, ∀ r ∈ opTable, r.matches c = false :=
  ⟨⟨0x41070000, 0, 0, 0, 0, 0⟩, by decide⟩

theorem test_witness_IdentifierOperandHighBits :
    ∃ c : Command, c.w0.toNat / 2 ^ 24 ∈ [0x11, 0x12, 0x13, 0x14, 0x15, 0x16, 0x17, 0x18, 0x19, 0x60] :=
  ⟨⟨0x60080000, 0xF8EC0001, 0, 0, 0, 0⟩, by decide⟩

theorem test_witness_StepRuns :
    ∃ (s : State) (c : Command) (rest : List Input) (i : Instr), s.inputs = .command c :: rest ∧ decode c = .ok i :=
  ⟨{ State.reset with inputs := [.command ⟨0x24000000, 0, 0, 0, 0, 0⟩] }, _, _, .bldBuild, rfl, by decide⟩

theorem test_witness_StepRuns_idle :
    ∃ s : State, s.inputs = [] :=
  ⟨State.reset, rfl⟩

theorem test_witness_TableWordRunsItsRow :
    ∃ (nbits w : Nat) (i : Instr), decodeTableWord nbits w = some i :=
  ⟨32, 0x66000000, .rxsClose, by decide⟩

theorem test_witness_WireDataRows :
    ∃ (p : BitVec 3) (e d : BitVec 1) (pf ps sa : Byte), (Instr.canIdPdu2 p e d pf ps sa).wellFormed = true :=
  ⟨0, 0, 0, 240, 0, 0, by decide⟩

theorem test_witness_BuilderRoundTrip_pdu1 :
    ∃ (pgn : Pgn) (p : Byte), p.toNat ≤ 7 ∧ pgn.toNat / 2 ^ 8 % 2 ^ 8 < 240 ∧ pgn.toNat % 2 ^ 8 = 0 :=
  ⟨0xEF00, 7, by decide⟩

theorem test_witness_BuilderRoundTrip_pdu2 :
    ∃ (pgn : Pgn) (p : Byte), p.toNat ≤ 7 ∧ 240 ≤ pgn.toNat / 2 ^ 8 % 2 ^ 8 :=
  ⟨0xF000, 7, by decide⟩

theorem test_witness_BuilderRoundTrip_low_byte :
    ∃ (pgn : Pgn) (p : Byte), p.toNat ≤ 7 ∧ pgn.toNat / 2 ^ 8 % 2 ^ 8 < 240 ∧ pgn.toNat % 2 ^ 8 ≠ 0 :=
  ⟨0xEFFF, 0, by decide⟩

theorem test_witness_SlotDec_illegal :
    ∃ d : SlotDesc, ¬ legalDescriptor d :=
  ⟨⟨0x80000000, 0, 0, 0⟩, by unfold legalDescriptor finitePattern; decide +kernel⟩

theorem test_witness_SlotDec_sentinel :
    ∃ (t : RawType) (raw : Word) (d : SlotDesc), legalDescriptor d ∧ raw.toNat % 2 ^ t.bits = 2 ^ t.bits - 1 :=
  ⟨.i8, 0x123456FF, (⟨0x3F800000, 0xC2200000, 0xC2200000, 0x43520000⟩ : SlotDesc), by unfold legalDescriptor finitePattern; decide +kernel, by decide⟩

theorem test_witness_SlotDec_value :
    ∃ (t : RawType) (raw : Word) (d : SlotDesc), legalDescriptor d ∧ raw.toNat % 2 ^ t.bits ≠ 2 ^ t.bits - 1 :=
  ⟨.i32, 0xFFFFFFFE, (⟨0x3F800000, 0xC2200000, 0xC2200000, 0x43520000⟩ : SlotDesc), by unfold legalDescriptor finitePattern; decide +kernel, by decide⟩

theorem test_witness_SlotEnc_nan :
    ∃ (w : Word) (d : SlotDesc), legalDescriptor d ∧ nanPattern w :=
  ⟨0x7F800001, (⟨0x3F800000, 0xC2200000, 0xC2200000, 0x43520000⟩ : SlotDesc), by unfold legalDescriptor finitePattern; decide +kernel, by unfold nanPattern; decide⟩

theorem test_witness_SlotEnc_value :
    ∃ (w : Word) (d : SlotDesc), legalDescriptor d ∧ ¬ nanPattern w :=
  ⟨0x7F800000, (⟨0x3F800000, 0xC2200000, 0xC2200000, 0x43520000⟩ : SlotDesc), by unfold legalDescriptor finitePattern; decide +kernel, by unfold nanPattern; decide⟩

theorem test_witness_Rounding_finite :
    ∃ n d : Nat, 0 < n ∧ 0 < d ∧ (n : ℚ) / d < 2 ^ 128 - 2 ^ 103 :=
  ⟨1, 1, by norm_num⟩

theorem test_witness_Rounding_overflow :
    ∃ n d : Nat, 0 < n ∧ 0 < d ∧ 2 ^ 128 - 2 ^ 103 ≤ (n : ℚ) / d :=
  ⟨2 ^ 128 - 2 ^ 103, 1, by norm_num⟩

theorem test_witness_Arithmetic_zero_sum :
    f32Rat false 3 4 + f32Rat true 6 3 = 0 :=
  by norm_num [f32Rat, zpow_ofNat]

theorem test_witness_Arithmetic_sum :
    f32Rat false 3 4 + f32Rat true 5 3 ≠ 0 :=
  by norm_num [f32Rat, zpow_ofNat]

theorem test_witness_Arithmetic_integer :
    ∃ n : Int, n.natAbs ≤ 2 ^ 24 :=
  ⟨-2 ^ 24, by decide⟩

theorem test_witness_Arithmetic_zero_difference :
    f32Rat true 3 4 - f32Rat true 6 3 = 0 :=
  by norm_num [f32Rat, zpow_ofNat]

theorem test_witness_Arithmetic_difference :
    f32Rat false 3 4 - f32Rat true 6 3 ≠ 0 :=
  by norm_num [f32Rat, zpow_ofNat]

theorem test_witness_Arithmetic_quotient :
    ∃ n : Nat, n ≠ 0 :=
  ⟨1, by decide⟩

theorem test_witness_Arithmetic_wide_integer :
    ∃ n : Int, n ≠ 0 ∧ n.natAbs ≤ 2 ^ 32 :=
  ⟨2 ^ 32, by decide⟩

theorem test_witness_Clamp_bounds :
    f32Rat true 3 4 ≤ f32Rat false 6 3 :=
  by norm_num [f32Rat, zpow_ofNat]

theorem test_witness_Clamp_below :
    f32Rat true 7 3 < f32Rat true 3 4 ∧ f32Rat true 3 4 ≤ f32Rat false 6 3 :=
  by norm_num [f32Rat, zpow_ofNat]

theorem test_witness_Clamp_above :
    f32Rat true 3 4 ≤ f32Rat false 6 3 ∧ f32Rat false 6 3 < f32Rat false 7 3 :=
  by norm_num [f32Rat, zpow_ofNat]

theorem test_witness_Clamp_inside :
    f32Rat true 3 4 ≤ f32Rat true 6 3 ∧ f32Rat true 6 3 ≤ f32Rat false 6 3 :=
  by norm_num [f32Rat, zpow_ofNat]

theorem test_witness_Clamp_lower :
    ∃ x lo : F32, f32Lt x lo = true :=
  ⟨.inf true, .fin true 1 0, by decide⟩

theorem test_witness_Clamp_upper :
    ∃ x lo hi : F32, f32Lt x lo = false ∧ f32Lt hi x = true :=
  ⟨.inf false, .fin true 1 0, .fin false 1 0, by decide⟩

theorem test_witness_Clamp_same :
    ∃ x lo hi : F32, f32Lt x lo = false ∧ f32Lt hi x = false :=
  ⟨.fin true 0 0, .fin false 0 0, .fin false 1 0, by decide⟩

theorem test_witness_Patterns_infinity :
    ∃ w : Word, w.toNat / 2 ^ 23 % 2 ^ 8 = 255 ∧ w.toNat % 2 ^ 23 = 0 :=
  ⟨0xFF800000, by decide⟩

theorem test_witness_Patterns_nan :
    ∃ w : Word, w.toNat / 2 ^ 23 % 2 ^ 8 = 255 ∧ w.toNat % 2 ^ 23 ≠ 0 :=
  ⟨0xFF800001, by decide⟩

theorem test_witness_Patterns_subnormal :
    ∃ w : Word, w.toNat / 2 ^ 23 % 2 ^ 8 = 0 ∧ ¬ nanPattern w :=
  ⟨0x807FFFFF, by unfold nanPattern; decide⟩

theorem test_witness_Patterns_normal :
    ∃ w : Word, w.toNat / 2 ^ 23 % 2 ^ 8 ≠ 0 ∧ w.toNat / 2 ^ 23 % 2 ^ 8 ≠ 255 ∧ ¬ nanPattern w :=
  ⟨0x00800000, by unfold nanPattern; decide⟩

theorem test_witness_Fld_short :
    ∃ (w : FieldWidth) (len : BitVec 4) (k : Word), min len.toNat 8 < k.toNat + w.bytes :=
  ⟨.w4, 15, 5, by decide⟩

theorem test_witness_Fld_fits :
    ∃ (w : FieldWidth) (len : BitVec 4) (k : Word), k.toNat + w.bytes ≤ min len.toNat 8 :=
  ⟨.w4, 15, 4, by decide⟩

theorem test_witness_TxbWr_busy :
    ∃ s : State, s.txState ≠ .idle :=
  ⟨senderState .connectionManagement 0 0, by decide⟩

theorem test_witness_TxbWr_bad :
    ∃ (a : Word) (s : State), s.txState = .idle ∧ 1784 < a.toNat :=
  ⟨1785, State.reset, by decide⟩

theorem test_witness_TxbWr_write :
    ∃ (a : Word) (s : State), s.txState = .idle ∧ a.toNat ≤ 1784 :=
  ⟨1784, State.reset, by decide⟩

theorem test_witness_TxsOpen_length :
    ∃ len : Word, 1785 < len.toNat :=
  ⟨1786, by decide⟩

theorem test_witness_TxsOpen_session :
    ∃ len : Word, len.toNat ≤ 1785 :=
  ⟨1785, by decide⟩

theorem test_witness_TxsCount_idle :
    ∃ s : State, s.txState = .idle :=
  ⟨State.reset, rfl⟩

theorem test_witness_TxsCount_session :
    ∃ s : State, s.txState ≠ .idle :=
  ⟨senderState .dataTransfer 1785 255, by decide⟩

theorem test_witness_TxsNext_idle :
    ∃ s : State, s.txState = .idle :=
  ⟨{ State.reset with txIdx := 255 }, rfl⟩

theorem test_witness_TxsNext_connection :
    ∃ s : State, s.txState = .connectionManagement :=
  ⟨senderState .connectionManagement 0 255, rfl⟩

theorem test_witness_TxsNext_above :
    ∃ s : State, s.txState = .dataTransfer ∧ (s.txTotal.toNat + 6) / 7 < s.txIdx.toNat :=
  ⟨senderState .dataTransfer 0 1, by decide⟩

theorem test_witness_FirstTxsNext :
    ∃ s : State, s.txState = .connectionManagement ∧ s.txTotal.toNat ≤ 1785 :=
  ⟨senderState .connectionManagement 1785 255, by decide⟩

theorem test_witness_TxsNext_data :
    ∃ s : State, s.txState = .dataTransfer ∧ s.txTotal.toNat ≤ 1785 ∧ s.txIdx.toNat < (s.txTotal.toNat + 6) / 7 :=
  ⟨senderState .dataTransfer 1785 254, by decide⟩

theorem test_witness_UnwrittenPayload_written :
    ∃ (s : State) (a : Nat) (v : Byte), s.readByte .txBuf a = some v :=
  ⟨senderState .dataTransfer 9 0, 8, 9, by decide⟩

theorem test_witness_UnwrittenPayload_unwritten :
    ∃ (s : State) (a : Nat), s.readByte .txBuf a = none :=
  ⟨senderState .dataTransfer 9 0, 9, by decide⟩

theorem test_witness_TxsNext_exhausted :
    ∃ s : State, s.txState = .dataTransfer ∧ (s.txTotal.toNat + 6) / 7 ≤ s.txIdx.toNat :=
  ⟨senderState .dataTransfer 1785 255, by decide⟩

theorem test_witness_SenderEmits_last :
    ∃ (len : Word) (j : Nat), len.toNat ≤ 1785 ∧ j ≤ (len.toNat + 6) / 7 :=
  ⟨1785, 255, by decide⟩

theorem test_witness_SenderEmits_exhausted :
    ∃ (len : Word) (j : Nat), len.toNat ≤ 1785 ∧ (len.toNat + 6) / 7 < j :=
  ⟨1785, 256, by decide⟩

theorem test_witness_FedBam_short :
    ∃ (len : BitVec 4) (id : Ident), id.toNat / 2 ^ 16 % 2 ^ 10 = 0xEC ∧ min len.toNat 8 < 8 :=
  ⟨7, 0x18ECFF80, by decide⟩

theorem test_witness_FedBam_control :
    ∃ (len : BitVec 4) (id : Ident) (pw0 pw1 : Word), id.toNat / 2 ^ 16 % 2 ^ 10 = 0xEC ∧ 8 ≤ len.toNat ∧ payByte pw0 pw1 0 ≠ 0x20 :=
  ⟨8, 0x18ECFF80, 0x02000910, 0, by decide⟩

theorem test_witness_FedBam_too_long :
    ∃ (len : BitVec 4) (id : Ident) (pw0 pw1 : Word), id.toNat / 2 ^ 16 % 2 ^ 10 = 0xEC ∧ 8 ≤ len.toNat ∧ payByte pw0 pw1 0 = 0x20 ∧
      1785 < payByte pw0 pw1 1 + 2 ^ 8 * payByte pw0 pw1 2 :=
  ⟨8, 0x18ECFF80, 0xFF06FA20, 0, by decide⟩

theorem test_witness_FedBam_accepted :
    ∃ (len : BitVec 4) (id : Ident) (pw0 pw1 : Word), id.toNat / 2 ^ 16 % 2 ^ 10 = 0xEC ∧ 8 ≤ len.toNat ∧ payByte pw0 pw1 0 = 0x20 ∧
      payByte pw0 pw1 1 + 2 ^ 8 * payByte pw0 pw1 2 ≤ 1785 :=
  ⟨15, 0x00EC0000, 0x0006F920, 0, by decide⟩

theorem test_witness_FedData_empty :
    ∃ (len : BitVec 4) (id : Ident), id.toNat / 2 ^ 16 % 2 ^ 10 = 0xEB ∧ min len.toNat 8 < 1 :=
  ⟨0, 0x18EBFF80, by decide⟩

theorem test_witness_FedData_idle :
    ∃ (len : BitVec 4) (id : Ident) (s : State), id.toNat / 2 ^ 16 % 2 ^ 10 = 0xEB ∧ 1 ≤ min len.toNat 8 ∧ s.rxState = .idle :=
  ⟨1, 0x18EBFF80, State.reset, by decide⟩

theorem test_witness_FedData_sequence_zero :
    ∃ (len : BitVec 4) (id : Ident) (pw0 pw1 : Word) (s : State), id.toNat / 2 ^ 16 % 2 ^ 10 = 0xEB ∧ 1 ≤ min len.toNat 8 ∧
      s.rxState = .dataTransfer ∧ payByte pw0 pw1 0 = 0 :=
  ⟨1, 0x18EBFF80, 0xFFFFFF00, 0, receiverState 9 0 [], by decide⟩

theorem test_witness_FedData_accepted :
    ∃ (len : BitVec 4) (id : Ident) (pw0 pw1 : Word) (s : State), id.toNat / 2 ^ 16 % 2 ^ 10 = 0xEB ∧ 1 ≤ min len.toNat 8 ∧
      s.rxState = .dataTransfer ∧ payByte pw0 pw1 0 ≠ 0 :=
  ⟨15, 0x18EBFF80, 0x000000FF, 0, receiverState 1785 0 [], by decide⟩

theorem test_witness_OtherFrames :
    ∃ id : Ident, id.toNat / 2 ^ 16 % 2 ^ 10 ≠ 0xEC ∧ id.toNat / 2 ^ 16 % 2 ^ 10 ≠ 0xEB :=
  ⟨0x19ECFF80, by decide⟩

theorem test_witness_Receiver_idle :
    ∃ s : State, s.rxState = .idle :=
  ⟨State.reset, rfl⟩

theorem test_witness_Receiver_session :
    ∃ s : State, s.rxState = .dataTransfer :=
  ⟨receiverState 9 7 [], rfl⟩

theorem test_witness_RxbRd_beyond :
    ∃ (a : Word) (s : State), s.rxState = .dataTransfer ∧ min s.rxLen.toNat 1785 ≤ a.toNat :=
  ⟨1785, receiverState 1785 1785 [], by decide⟩

theorem test_witness_RxbRd_no_storage :
    ∃ (a : Word) (s : State), s.rxState = .dataTransfer ∧ a.toNat < s.rxLen.toNat ∧ min s.rxLen.toNat 1785 ≤ a.toNat :=
  ⟨1785, receiverState 1786 1786 [], by decide⟩

theorem test_witness_RxbRd_byte :
    ∃ (a : Word) (s : State), s.rxState = .dataTransfer ∧ a.toNat < min s.rxLen.toNat 1785 :=
  ⟨1784, receiverState 1785 1785 [], by decide⟩

theorem test_witness_FedTransfer :
    ∃ d : List Byte, d.length ≤ 1785 :=
  ⟨[1, 2, 3, 4, 5, 6, 7, 8, 9], by decide⟩

theorem test_witness_WireBam :
    ∃ (id : Ident) (total : BitVec 16), (Instr.tpCmBam id total 0 0).wellFormed = true ∧ total.toNat ≤ 1785 :=
  ⟨0x1CECFF80, 1785, by decide⟩

theorem test_witness_WireDt :
    ∃ (id : Ident) (sq : Byte) (s : State), (Instr.tpDt id sq 0).wellFormed = true ∧ sq ≠ 0 ∧ s.rxState = .dataTransfer :=
  ⟨0x00EB0000, 255, receiverState 1785 0 [], by decide⟩

theorem test_witness_ErrorsLeaveNoTrace :
    ∃ (i : Instr) (s t : State) (r : Response), exec i s = .next t ∧ t.response = some r ∧ r.s.toNat % 2 ^ 8 ≠ 0 :=
  ⟨.txsCount, State.reset, _, _, rfl, rfl, by decide⟩

theorem test_witness_EveryCommand :
    ∃ (s : State) (c : Command) (rest : List Input), s.inv ∧ s.inputs = .command c :: rest :=
  ⟨{ senderState .dataTransfer 1785 254 with inputs := [.command ⟨0x53000000, 0, 0, 0, 0, 0⟩] }, _, _, by decide, rfl⟩

theorem test_witness_Stateless :
    ∃ i : Instr, i.unit = .stateless :=
  ⟨.slotEncI32 none ⟨0, 0, 0, 0⟩, rfl⟩

theorem test_witness_TheirBank_builder :
    ∃ (i : Instr) (s t : State), exec i s = .next t ∧ i.unit = .builder :=
  ⟨.bldPgn 5, State.reset, _, rfl, rfl⟩

theorem test_witness_TheirBank_sender :
    ∃ (i : Instr) (s t : State), exec i s = .next t ∧ i.unit = .sender :=
  ⟨.txbWr 0 5, State.reset, _, rfl, rfl⟩

theorem test_witness_TheirBank_receiver :
    ∃ (i : Instr) (s t : State), exec i s = .next t ∧ i.unit = .receiver :=
  ⟨.rxsClose, receiverState 9 7 [], _, rfl, rfl⟩

theorem test_witness_Banks_builder :
    ∃ (i : Instr) (s u : State), s ≠ u ∧ i.unit = .builder ∧ sameBuilder s u :=
  ⟨.bldBuild, State.reset, receiverState 9 7 [(0, 1)], by decide⟩

theorem test_witness_Banks_sender :
    ∃ (i : Instr) (s u : State), s ≠ u ∧ i.unit = .sender ∧ s.params = u.params ∧ s.txEpoch = u.txEpoch ∧ sameSender s u :=
  ⟨.txsNext, State.reset, receiverState 9 7 [(0, 1)], by decide⟩

theorem test_witness_Banks_receiver :
    ∃ (i : Instr) (s u : State), s ≠ u ∧ i.unit = .receiver ∧ s.params = u.params ∧ sameReceiver s u :=
  ⟨.rxsFeed 8 0x18EBFF80 1 0, State.reset, senderState .dataTransfer 9 1, by decide⟩

theorem test_witness_NoStorage_sender :
    ∃ (a : Word) (s : State), 1784 < a.toNat ∧ s.txState = .idle :=
  ⟨1785, State.reset, by decide⟩

theorem test_witness_NoStorage_sender_busy :
    ∃ (a : Word) (s : State), 1784 < a.toNat ∧ s.txState ≠ .idle :=
  ⟨0xFFFFFFFF, senderState .dataTransfer 9 1, by decide⟩

theorem test_witness_NoStorage_receiver :
    ∃ (a : Word) (s : State), 1784 < a.toNat ∧ s.rxState = .dataTransfer :=
  ⟨1785, receiverState 1785 1785 [], by decide⟩

theorem test_witness_NoStorage_receiver_idle :
    ∃ (a : Word) (s : State), 1784 < a.toNat ∧ s.rxState = .idle :=
  ⟨1785, State.reset, by decide⟩

theorem test_witness_NoStorage_unlisted :
    ∃ (s : State) (a : Nat) (c : Host.Cell), s.inv ∧ c ∈ s.rxBuf ∧ 1784 < a :=
  ⟨receiverState 1785 1785 [(1784, 5)], 1785, (1784, 5), by decide⟩

end Sys2Proof.Tests
end

section
/-! SUPPORT. Which command blocks are illegal (30_encoding.md R81): the conditions on the header word, read per opcode as
conditions on its fields, against what the decoder answers. -/

namespace Sys2Proof

open Sys2Proof.Machine

/-! ### The opcode map, by how an opcode reads MOD -/

/-- The 34 opcodes of R80. -/
def assignedOpcodes : List Nat :=
  [0x01, 0x10, 0x11, 0x12, 0x13, 0x14, 0x15, 0x16, 0x17, 0x18, 0x19, 0x20, 0x21, 0x22, 0x23, 0x24, 0x30, 0x31,
   0x40, 0x41, 0x48, 0x49, 0x50, 0x51, 0x52, 0x53, 0x54, 0x60, 0x61, 0x62, 0x63, 0x64, 0x65, 0x66]

/-- Those of them whose MOD has a sub-field: SLOT.DEC, SLOT.ENC, FLD.GET, FLD.PUT and RXS.FEED. -/
def subfieldOpcodes : List Nat := [0x40, 0x41, 0x48, 0x49, 0x60]

/-- `DecodeArm m c op d`: the opcode map answers `d` for the opcode `op`, with modifier `m`, on the block `c`. -/
inductive DecodeArm (m : Byte) (c : Command) : Byte → Decoded → Prop where
  | plain {op : Byte} (ha : op.toNat ∈ assignedOpcodes) (hs : op.toNat ∉ subfieldOpcodes) (i : Instr) :
      DecodeArm m c op (decodePlain m i)
  | slotDec : DecodeArm m c 0x40 (decodeSlotDec m c)
  | slotEnc : DecodeArm m c 0x41 (decodeSlotEnc m c)
  | fldGet : DecodeArm m c 0x48 (decodeFldGet m c)
  | fldPut : DecodeArm m c 0x49 (decodeFldPut m c)
  | rxsFeed : DecodeArm m c 0x60 (decodeRxsFeed m c)
  | unassigned {op : Byte} (ha : op.toNat ∉ assignedOpcodes) : DecodeArm m c op (.illegal .unassignedOp)

/-- Every opcode falls under one of these arms. -/
theorem decodeOp_arm (op m : Byte) (c : Command) : DecodeArm m c op (decodeOp op m c) := by
  unfold decodeOp
  split
  case h_19 h => obtain rfl : op = 0x40 := BitVec.eq_of_toNat_eq h; exact .slotDec
  case h_20 h => obtain rfl : op = 0x41 := BitVec.eq_of_toNat_eq h; exact .slotEnc
  case h_21 h => obtain rfl : op = 0x48 := BitVec.eq_of_toNat_eq h; exact .fldGet
  case h_22 h => obtain rfl : op = 0x49 := BitVec.eq_of_toNat_eq h; exact .fldPut
  case h_28 h => obtain rfl : op = 0x60 := BitVec.eq_of_toNat_eq h; exact .rxsFeed
  case h_35 =>
    simp only [imp_false] at *
    exact .unassigned (by simp [assignedOpcodes, *])
  all_goals next h => exact .plain (by rw [h]; decide) (by rw [h]; decide) _

/-! ### When each reading of MOD is illegal -/

/-- A decoder that first refuses on a condition is illegal under it, or where the rest of it is. -/
theorem guard_illegal_iff {p : Prop} [Decidable p] (w : Reject) (d : Decoded) :
    (∃ why, (if p then .illegal w else d) = .illegal why) ↔ p ∨ ∃ why, d = .illegal why := by
  by_cases h : p <;> simp [h]

/-- The raw type code T (R70) names one of six operations, or is 3 or 7. -/
theorem rawTypeCode_illegal_iff (t : BitVec 3) (u8 u16 u32 i8 i16 i32 : Instr) :
    (∃ why, (match t.toNat with
      | 0 => .ok u8 | 1 => .ok u16 | 2 => .ok u32 | 4 => .ok i8 | 5 => .ok i16 | 6 => .ok i32
      | _ => .illegal .illegalType : Decoded) = .illegal why) ↔ t.toNat = 3 ∨ t.toNat = 7 := by
  have ht := t.isLt
  split <;> simp [*]
  -- What is left is the branch of no named code.
  simp only [imp_false] at *
  omega

/-- The width code T[1:0] (R153) names one of three operations, or is 3. -/
theorem widthCode_illegal_iff (t : BitVec 2) (w1 w2 w4 : Instr) :
    (∃ why, (match t.toNat with
      | 0 => .ok w1 | 1 => .ok w2 | 2 => .ok w4
      | _ => .illegal .illegalType : Decoded) = .illegal why) ↔ t.toNat = 3 := by
  have ht := t.isLt
  split <;> simp [*]
  -- What is left is the branch of no named code.
  simp only [imp_false] at *
  omega

section
variable (m : Byte) (c : Command)

theorem decodePlain_illegal_iff (i : Instr) : (∃ why, decodePlain m i = .illegal why) ↔ m ≠ 0 := by
  rw [decodePlain, ← ite_not, guard_illegal_iff]
  simp

theorem decodeSlotDec_illegal_iff : (∃ why, decodeSlotDec m c = .illegal why) ↔
    m.extractLsb' 3 5 ≠ 0 ∨ (m.extractLsb' 0 3).toNat = 3 ∨ (m.extractLsb' 0 3).toNat = 7 :=
  (guard_illegal_iff _ _).trans (or_congr_right (rawTypeCode_illegal_iff _ _ _ _ _ _ _))

theorem decodeSlotEnc_illegal_iff : (∃ why, decodeSlotEnc m c = .illegal why) ↔
    m.extractLsb' 3 4 ≠ 0 ∨ (m.extractLsb' 0 3).toNat = 3 ∨ (m.extractLsb' 0 3).toNat = 7 :=
  (guard_illegal_iff _ _).trans (or_congr_right (rawTypeCode_illegal_iff _ _ _ _ _ _ _))

theorem decodeFldGet_illegal_iff : (∃ why, decodeFldGet m c = .illegal why) ↔
    m.extractLsb' 3 1 ≠ 0 ∨ (m.extractLsb' 0 2).toNat = 3 :=
  (guard_illegal_iff _ _).trans (or_congr_right (widthCode_illegal_iff _ _ _ _))

theorem decodeFldPut_illegal_iff : (∃ why, decodeFldPut m c = .illegal why) ↔
    m.extractLsb' 3 1 ≠ 0 ∨ (m.extractLsb' 0 2).toNat = 3 :=
  (guard_illegal_iff _ _).trans (or_congr_right (widthCode_illegal_iff _ _ _ _))

theorem decodeRxsFeed_illegal_iff : (∃ why, decodeRxsFeed m c = .illegal why) ↔ m.extractLsb' 4 4 ≠ 0 := by
  rw [decodeRxsFeed, guard_illegal_iff]
  simp

end

/-! ### R81's conditions on a header, per opcode -/

/-- Masking a field in place gives zero exactly when the field is zero. -/
theorem and_fieldMask_eq_zero_iff {w : Nat} (x : BitVec w) (lo n : Nat) :
    x.toNat &&& (2 ^ n - 1) <<< lo = 0 ↔ x.extractLsb' lo n = 0 := by
  have hmask : x.toNat &&& (2 ^ n - 1) <<< lo = (x.toNat >>> lo &&& (2 ^ n - 1)) <<< lo := by
    apply Nat.eq_of_testBit_eq
    intro j
    by_cases hj : lo ≤ j <;> simp [hj, Bool.and_comm]
  rw [hmask, Nat.shiftLeft_eq_zero_iff, Nat.and_two_pow_sub_one_eq_mod, ← BitVec.extractLsb'_toNat]
  exact BitVec.toNat_eq (y := 0#n) |>.symm

/-- The MOD bits that R80 assigns to no sub-field of an opcode. -/
def reservedMod (op : Nat) : Nat :=
  if op = 0x40 then 0xF8 else if op = 0x41 then 0x78 else if op = 0x48 ∨ op = 0x49 then 0x08
  else if op = 0x60 then 0xF0 else 0xFF

section
variable {op : Byte} (m : Byte)

theorem headerWord_op : (headerWord op m).toNat / 2 ^ 24 = op.toNat := by
  rw [headerWord_toNat]; omega

theorem headerWord_modifier : (headerWord op m).toNat / 2 ^ 16 % 2 ^ 8 = m.toNat := by
  rw [headerWord_toNat]; omega

theorem headerWord_low : (headerWord op m).toNat % 2 ^ 16 = 0 := by
  rw [headerWord_toNat]; omega

/-- R81 on a header with a zero reserved half: the conditions left are on OP and MOD. -/
theorem illegalHeader_headerWord_iff : illegalHeader (headerWord op m) ↔
    op.toNat ∉ assignedOpcodes ∨ m.toNat &&& reservedMod op.toNat ≠ 0 ∨
    ((op.toNat = 0x40 ∨ op.toNat = 0x41) ∧ (m.toNat % 8 = 3 ∨ m.toNat % 8 = 7)) ∨
    ((op.toNat = 0x48 ∨ op.toNat = 0x49) ∧ m.toNat % 4 = 3) := by
  simp only [illegalHeader, headerWord_op, headerWord_modifier, headerWord_low, ne_eq, not_true, false_or]
  rfl

theorem illegalHeader_plain_iff (ha : op.toNat ∈ assignedOpcodes) (hs : op.toNat ∉ subfieldOpcodes) :
    illegalHeader (headerWord op m) ↔ m ≠ 0 := by
  have hr : m.toNat &&& 0xFF = 0 ↔ m = 0 := by
    simpa using and_fieldMask_eq_zero_iff m 0 8
  simp only [subfieldOpcodes, List.mem_cons, List.not_mem_nil, not_or] at hs
  simp [illegalHeader_headerWord_iff, reservedMod, ha, hs, hr]

theorem illegalHeader_slotDec_iff : illegalHeader (headerWord 0x40 m) ↔
    m.extractLsb' 3 5 ≠ 0 ∨ (m.extractLsb' 0 3).toNat = 3 ∨ (m.extractLsb' 0 3).toNat = 7 := by
  have hr : m.toNat &&& 0xF8 = 0 ↔ m.extractLsb' 3 5 = 0 := and_fieldMask_eq_zero_iff m 3 5
  simp [illegalHeader_headerWord_iff, assignedOpcodes, reservedMod, hr]

theorem illegalHeader_slotEnc_iff : illegalHeader (headerWord 0x41 m) ↔
    m.extractLsb' 3 4 ≠ 0 ∨ (m.extractLsb' 0 3).toNat = 3 ∨ (m.extractLsb' 0 3).toNat = 7 := by
  have hr : m.toNat &&& 0x78 = 0 ↔ m.extractLsb' 3 4 = 0 := and_fieldMask_eq_zero_iff m 3 4
  simp [illegalHeader_headerWord_iff, assignedOpcodes, reservedMod, hr]

theorem illegalHeader_fld_iff (h : op = 0x48 ∨ op = 0x49) : illegalHeader (headerWord op m) ↔
    m.extractLsb' 3 1 ≠ 0 ∨ (m.extractLsb' 0 2).toNat = 3 := by
  have hr : m.toNat &&& 0x08 = 0 ↔ m.extractLsb' 3 1 = 0 := and_fieldMask_eq_zero_iff m 3 1
  obtain rfl | rfl := h <;> simp [illegalHeader_headerWord_iff, assignedOpcodes, reservedMod, hr]

theorem illegalHeader_rxsFeed_iff : illegalHeader (headerWord 0x60 m) ↔ m.extractLsb' 4 4 ≠ 0 := by
  have hr : m.toNat &&& 0xF0 = 0 ↔ m.extractLsb' 4 4 = 0 := and_fieldMask_eq_zero_iff m 4 4
  simp [illegalHeader_headerWord_iff, assignedOpcodes, reservedMod, hr]

end

/-! ### The decoder and the step -/

/-- In each arm, R81's conditions on the header are those under which the decoder refuses. -/
theorem DecodeArm.illegalHeader_iff {op m : Byte} {c : Command} {d : Decoded} (h : DecodeArm m c op d) :
    illegalHeader (headerWord op m) ↔ ∃ why, d = .illegal why := by
  cases h with
  | plain ha hs i => exact (illegalHeader_plain_iff m ha hs).trans (decodePlain_illegal_iff m i).symm
  | slotDec => exact (illegalHeader_slotDec_iff m).trans (decodeSlotDec_illegal_iff m c).symm
  | slotEnc => exact (illegalHeader_slotEnc_iff m).trans (decodeSlotEnc_illegal_iff m c).symm
  | fldGet => exact (illegalHeader_fld_iff m (.inl rfl)).trans (decodeFldGet_illegal_iff m c).symm
  | fldPut => exact (illegalHeader_fld_iff m (.inr rfl)).trans (decodeFldPut_illegal_iff m c).symm
  | rxsFeed => exact (illegalHeader_rxsFeed_iff m).trans (decodeRxsFeed_illegal_iff m c).symm
  | unassigned ha => exact iff_of_true ((illegalHeader_headerWord_iff m).mpr (.inl ha)) ⟨_, rfl⟩

theorem illegalHeader_of_low_ne {c : Command} (h : c.low ≠ 0) : illegalHeader c.w0 := by
  refine .inr (.inl fun h0 => h (BitVec.eq_of_toNat_eq ?_))
  rw [Command.low, extract_toNat, pow_zero, Nat.div_one, h0]
  rfl

/-- R81's conditions on the header are exactly those under which the decoder refuses the block. -/
theorem illegalHeader_iff_decode (c : Command) : illegalHeader c.w0 ↔ ∃ why, decode c = .illegal why := by
  by_cases h : c.low = 0
  · rw [Command.header_of_low h, decode_of_low h]
    exact (decodeOp_arm c.op c.modifier c).illegalHeader_iff
  · exact iff_of_true (illegalHeader_of_low_ne h) ⟨_, decode_of_low_ne h⟩

section
variable {s : State} {c : Command} {rest : List Input} (hs : s.inputs = .command c :: rest)
include hs

theorem step_of_decode_ok {i : Instr} (hd : decode c = .ok i) : step s = exec i { s with inputs := rest } := by
  simp only [step, hs, hd, State.dropInput, List.tail_cons]

theorem step_of_decode_illegal {why : Reject} (hd : decode c = .illegal why) :
    step s = .next { s with inputs := rest, response := some ⟨3, 0, 0, 0⟩ } := by
  simp only [step, hs, hd, State.dropInput, List.tail_cons, takeIllegal, raise_eq, errorResponse_eq]
  rfl

end

/-- Settles O10: R81's conditions on the header are the decoder's, opcode by opcode, and a step does what the decoder
answers. -/
theorem illegalBlocksAreAnsweredAndOthersRun : Obligations.IllegalBlocksAreAnsweredAndOthersRun := by
  refine ⟨.inl (by decide), fun s c rest hs => ⟨fun hill => ?_, fun hleg => ?_⟩⟩
  · obtain ⟨why, hd⟩ := (illegalHeader_iff_decode c).mp hill
    exact step_of_decode_illegal hs hd
  · cases hd : decode c with
    | ok i => exact ⟨i, rfl, step_of_decode_ok hs hd⟩
    | illegal why => exact absurd ((illegalHeader_iff_decode c).mpr ⟨why, hd⟩) hleg

end Sys2Proof
end

section
/-! SUPPORT. The identifier, builder and PGN operations (40_identifier.md): the blocks they are decoded from, the values
of the identifier's fields, of the packed identifier and of the PGN's wire bytes as arithmetic, and what each operation
answers. -/

namespace Sys2Proof

open Sys2Proof.Machine

/-! ### Encodings -/

/-- An operation without a modifier has the encoding of its opcode's arm in the opcode map. -/
theorem encodedAs_of_decodeOp (op : Byte) {f : Word → Word → Word → Word → Word → Instr}
    (h : ∀ w1 w2 w3 w4 w5, decodeOp op 0 ⟨headerWord op 0, w1, w2, w3, w4, w5⟩ = .ok (f w1 w2 w3 w4 w5)) :
    encodedAs (headerWord op 0) f :=
  fun w1 w2 w3 w4 w5 => (decode_header op 0 w1 w2 w3 w4 w5).trans (h w1 w2 w3 w4 w5)

theorem extractLsb'_eq_ofNat_div {w : Nat} (x : BitVec w) (lo n : Nat) :
    x.extractLsb' lo n = BitVec.ofNat n (x.toNat / 2 ^ lo) := by
  apply BitVec.eq_of_toNat_eq
  rw [extract_toNat, BitVec.toNat_ofNat]

/-- The opcodes that read an identifier operand: ID.PRIO to ID.BCAST and RXS.FEED (R123). -/
def identOpcodes : List Nat := [0x11, 0x12, 0x13, 0x14, 0x15, 0x16, 0x17, 0x18, 0x19, 0x60]

theorem and_identMask_toNat (w : Word) : (w &&& 0x1FFFFFFF).toNat = w.toNat % 2 ^ 29 :=
  (BitVec.toNat_and w 0x1FFFFFFF).trans (Nat.and_two_pow_sub_one_eq_mod w.toNat 29)

/-- Masking a word to 29 bits leaves the identifier operand in it. -/
theorem and_identMask_extractLsb' (w : Word) : (w &&& 0x1FFFFFFF).extractLsb' 0 29 = w.extractLsb' 0 29 := by
  apply BitVec.eq_of_toNat_eq
  rw [extract_toNat, extract_toNat, and_identMask_toNat]
  omega

/-- The arms of these opcodes read W1 in bits 28..0 only. -/
theorem decodeOp_and_identMask {op : Byte} (h : op.toNat ∈ identOpcodes) (m : Byte) (c : Command) :
    decodeOp op m { c with w1 := c.w1 &&& 0x1FFFFFFF } = decodeOp op m c := by
  simp only [identOpcodes, List.mem_cons, List.not_mem_nil, or_false] at h
  rcases h with h | h | h | h | h | h | h | h | h | h <;>
    simp only [decodeOp, h, decodeRxsFeed, and_identMask_extractLsb']

theorem Command.op_toNat (c : Command) : c.op.toNat = c.w0.toNat / 2 ^ 24 := by
  have h := c.w0.isLt
  rw [Command.op, extract_toNat]
  omega

/-- Settles O12: OP, MOD and the reserved half are fields of W0, and the ten arms do not read W1's bits 31..29. -/
theorem identifierOperandHighBitsAreIgnored : Obligations.IdentifierOperandHighBitsAreIgnored := by
  intro c hop
  rw [← Command.op_toNat] at hop
  by_cases hlow : c.low = 0
  · calc decode c
      _ = decodeOp c.op c.modifier c := decode_of_low hlow
      _ = decodeOp c.op c.modifier { c with w1 := c.w1 &&& 0x1FFFFFFF } := (decodeOp_and_identMask hop _ c).symm
      _ = decode { c with w1 := c.w1 &&& 0x1FFFFFFF } :=
          (decode_of_low (c := { c with w1 := c.w1 &&& 0x1FFFFFFF }) hlow).symm
  · exact (decode_of_low_ne hlow).trans (decode_of_low_ne (c := { c with w1 := c.w1 &&& 0x1FFFFFFF }) hlow).symm

/-! ### Answering with one word -/

section
variable {i : Instr} {s : State} {n : Nat}

/-- An operation that gives a word answers OK with it and changes nothing else. -/
theorem answers_of_give {w w' : Word} (hi : exec i s = give w s) (hw : w = w') : answers i s ⟨0, w', 0, 0⟩ :=
  hw ▸ hi.trans (give_eq w s)

/-- The same, with the word known by its value. -/
theorem answers_of_give_toNat {w : Word} (hi : exec i s = give w s) (hw : w.toNat = n) :
    answers i s ⟨0, BitVec.ofNat 32 n, 0, 0⟩ :=
  answers_of_give hi (by rw [← hw, BitVec.ofNat_toNat, BitVec.setWidth_eq])

/-- An operation that gives a field, extended with zeros, answers the field's value. -/
theorem answers_of_give_field {k : Nat} {x : BitVec k} (hi : exec i s = give (x.setWidth 32) s) (hx : x.toNat = n)
    (hk : k ≤ 32 := by decide) : answers i s ⟨0, BitVec.ofNat 32 n, 0, 0⟩ :=
  answers_of_give_toNat hi ((BitVec.toNat_setWidth_of_le hk).trans hx)

end

/-! ### Identifier fields as arithmetic -/

section
variable (id : Ident)

theorem idPrio_toNat : (idPrio id).toNat = id.toNat / 2 ^ 26 := by
  have h := id.isLt
  rw [idPrio, extract_toNat]
  omega

theorem idDp_toNat : (idDp id).toNat = id.toNat / 2 ^ 24 % 2 := extract_toNat id 24 1

theorem idPf_toNat : (idPf id).toNat = id.toNat / 2 ^ 16 % 2 ^ 8 := extract_toNat id 16 8

theorem idPs_toNat : (idPs id).toNat = id.toNat / 2 ^ 8 % 2 ^ 8 := extract_toNat id 8 8

theorem idSa_toNat : (idSa id).toNat = id.toNat % 2 ^ 8 := by
  rw [idSa, extract_toNat, pow_zero, Nat.div_one]

theorem idIsPdu2_eq : idIsPdu2 id = decide (240 ≤ id.toNat / 2 ^ 16 % 2 ^ 8) := by
  rw [idIsPdu2, idPf_toNat]
  rfl

variable {id}

theorem idIsPdu2_of_le (h : 240 ≤ id.toNat / 2 ^ 16 % 2 ^ 8) : idIsPdu2 id = true := by
  rw [idIsPdu2_eq, decide_eq_true h]

theorem idIsPdu2_of_lt (h : id.toNat / 2 ^ 16 % 2 ^ 8 < 240) : idIsPdu2 id = false := by
  rw [idIsPdu2_eq, decide_eq_false h.not_ge]

end

/-! ### Optional and tagged bytes as arithmetic -/

/-- A flag in bit 8 above a byte. -/
theorem flag_append_byte_toNat (b : BitVec 1) (x : Byte) :
    (0#23 ++ b ++ x).toNat = b.toNat * 2 ^ 8 + x.toNat := by
  rw [append_toNat (0#23 ++ b) x, append_toNat 0#23 b, BitVec.toNat_zero, Nat.zero_mul, Nat.zero_add]

theorem optionByte_some_toNat (b : Byte) : (optionByte (some b)).toNat = 2 ^ 8 + b.toNat :=
  flag_append_byte_toNat 1#1 b

theorem optionByte_none_toNat : (optionByte none).toNat = 0 := rfl

theorem taggedPf_toNat (id : Ident) : (taggedPf id).toNat =
    if 240 ≤ id.toNat / 2 ^ 16 % 2 ^ 8 then 2 ^ 8 + id.toNat / 2 ^ 16 % 2 ^ 8 else id.toNat / 2 ^ 16 % 2 ^ 8 := by
  refine (flag_append_byte_toNat (BitVec.ofBool (idIsPdu2 id)) (idPf id)).trans ?_
  rw [idPf_toNat]
  by_cases h : 240 ≤ id.toNat / 2 ^ 16 % 2 ^ 8
  · rw [if_pos h, idIsPdu2_of_le h]
    rfl
  · rw [if_neg h, idIsPdu2_of_lt (not_le.mp h)]
    exact Nat.zero_add _

/-! ### The identifier operations -/

/-- Masking a word to 29 bits is taking its low 29 bits. -/
theorem idNew_setWidth (raw : Word) : (idNew raw).setWidth 32 = raw &&& 0x1FFFFFFF := by
  apply BitVec.eq_of_toNat_eq
  rw [BitVec.toNat_setWidth_of_le (by decide), idNew, extract_toNat, and_identMask_toNat, pow_zero, Nat.div_one]

/-- Settles O16: the operand's low 29 bits are the operand under the mask. -/
theorem idNewMasksTo29Bits : Obligations.IdNewMasksTo29Bits :=
  ⟨encodedAs_of_decodeOp 0x10 fun _ _ _ _ _ => rfl, fun raw _ => answers_of_give rfl (idNew_setWidth raw)⟩

/-- Settles O17: each operation gives its field, whose value is the identifier's bits. -/
theorem idFieldsAreTheIdentifierBits : Obligations.IdFieldsAreTheIdentifierBits :=
  ⟨encodedAs_of_decodeOp 0x11 fun _ _ _ _ _ => rfl, encodedAs_of_decodeOp 0x12 fun _ _ _ _ _ => rfl,
    encodedAs_of_decodeOp 0x14 fun _ _ _ _ _ => rfl, encodedAs_of_decodeOp 0x18 fun _ _ _ _ _ => rfl, fun id _ =>
    ⟨answers_of_give_field rfl (idPrio_toNat id), answers_of_give_field rfl (idDp_toNat id),
      answers_of_give_field rfl (idPs_toNat id), answers_of_give_field rfl (idSa_toNat id)⟩⟩

/-- Settles O18: the tag is a flag in bit 8 above PF. -/
theorem idPfIsTaggedByFormat : Obligations.IdPfIsTaggedByFormat :=
  ⟨encodedAs_of_decodeOp 0x13 fun _ _ _ _ _ => rfl, fun id _ => answers_of_give_toNat rfl (taggedPf_toNat id)⟩

/-- Settles O19, by the value of the raw PGN in each format. -/
theorem idPgnIsTheRawPgn : Obligations.IdPgnIsTheRawPgn :=
  ⟨encodedAs_of_decodeOp 0x15 fun _ _ _ _ _ => rfl, fun id _ => answers_of_give_field rfl (idPgnRaw_toNat id)⟩

/-- Under PDU1, PS is the destination address (R106). -/
theorem destination_toNat (id : Ident) : (optionByte (if idIsPdu2 id then none else some (idPs id))).toNat =
    if id.toNat / 2 ^ 16 % 2 ^ 8 < 240 then 2 ^ 8 + id.toNat / 2 ^ 8 % 2 ^ 8 else 0 := by
  by_cases h : id.toNat / 2 ^ 16 % 2 ^ 8 < 240
  · rw [if_pos h, idIsPdu2_of_lt h, if_neg Bool.false_ne_true, optionByte_some_toNat, idPs_toNat]
  · rw [if_neg h, idIsPdu2_of_le (not_lt.mp h), if_pos rfl, optionByte_none_toNat]

/-- Under PDU2, PS is the group extension (R107). -/
theorem groupExtension_toNat (id : Ident) : (optionByte (if idIsPdu2 id then some (idPs id) else none)).toNat =
    if 240 ≤ id.toNat / 2 ^ 16 % 2 ^ 8 then 2 ^ 8 + id.toNat / 2 ^ 8 % 2 ^ 8 else 0 := by
  by_cases h : 240 ≤ id.toNat / 2 ^ 16 % 2 ^ 8
  · rw [if_pos h, idIsPdu2_of_le h, if_pos rfl, optionByte_some_toNat, idPs_toNat]
  · rw [if_neg h, idIsPdu2_of_lt (not_le.mp h), if_neg Bool.false_ne_true, optionByte_none_toNat]

/-- Settles O20: PS is the destination address under PDU1 and the group extension under PDU2. -/
theorem idDaAndIdGeSplitByFormat : Obligations.IdDaAndIdGeSplitByFormat :=
  ⟨encodedAs_of_decodeOp 0x16 fun _ _ _ _ _ => rfl, encodedAs_of_decodeOp 0x17 fun _ _ _ _ _ => rfl, fun id _ =>
    ⟨answers_of_give_toNat rfl (destination_toNat id), answers_of_give_toNat rfl (groupExtension_toNat id)⟩⟩

/-- The flag of R109: always under PDU2, under PDU1 exactly for the broadcast destination. -/
theorem broadcastFlag_eq (id : Ident) : (BitVec.ofBool (idIsBroadcast id)).setWidth 32 =
    if 240 ≤ id.toNat / 2 ^ 16 % 2 ^ 8 then 1#32 else if id.toNat / 2 ^ 8 % 2 ^ 8 = 0xFF then 1 else 0 := by
  have hps : idPs id = Config.addrBroadcast ↔ id.toNat / 2 ^ 8 % 2 ^ 8 = 0xFF := by
    rw [← BitVec.toNat_inj, idPs_toNat]
    rfl
  rw [idIsBroadcast]
  by_cases h : 240 ≤ id.toNat / 2 ^ 16 % 2 ^ 8
  · rw [if_pos h, idIsPdu2_of_le h]
    rfl
  · rw [if_neg h, idIsPdu2_of_lt (not_le.mp h), Bool.false_or]
    by_cases hbc : id.toNat / 2 ^ 8 % 2 ^ 8 = 0xFF
    · rw [if_pos hbc, beq_iff_eq.mpr (hps.mpr hbc)]
      rfl
    · rw [if_neg hbc, beq_false_of_ne (mt hps.mp hbc)]
      rfl

/-- Settles O21, by the flag's cases. -/
theorem idBcastIsDestinationAware : Obligations.IdBcastIsDestinationAware :=
  ⟨encodedAs_of_decodeOp 0x19 fun _ _ _ _ _ => rfl, fun id _ => answers_of_give rfl (broadcastFlag_eq id)⟩

/-! ### The builder -/

/-- Settles O23: each operation ends with OK after one register update. -/
theorem builderRegistersAreWritten : Obligations.BuilderRegistersAreWritten :=
  ⟨encodedAs_of_decodeOp 0x20 fun _ _ _ _ _ => rfl, encodedAs_of_decodeOp 0x21 fun _ _ _ _ _ => rfl,
    encodedAs_of_decodeOp 0x22 fun _ _ _ _ _ => rfl, encodedAs_of_decodeOp 0x23 fun _ _ _ _ _ => rfl, fun s =>
    ⟨fun _ => done_eq _, fun p => done_eq (s.setBldPri (clampPrio p)), fun _ => done_eq _, fun _ => done_eq _⟩⟩

/-- The identifier before the destination is ORed in: priority, PGN and source address in their places. -/
theorem packedFields_toNat (prio : BitVec 3) (pgn : Pgn) (sa : Byte) :
    (prio ++ pgn ++ sa).toNat = prio.toNat * 2 ^ 26 + pgn.toNat * 2 ^ 8 + sa.toNat := by
  rw [append_toNat (prio ++ pgn) sa, append_toNat prio pgn]
  omega

/-- The destination address in bits 15..8 of an identifier. -/
theorem destinationField_toNat (da : Byte) : (da.setWidth 29 <<< 8).toNat = da.toNat * 2 ^ 8 := by
  have h := da.isLt
  rw [BitVec.toNat_shiftLeft, BitVec.toNat_setWidth_of_le (by decide), Nat.shiftLeft_eq]
  omega

theorem idBuild_toNat (prio : BitVec 3) (pgn : Pgn) (sa da : Byte) :
    let t := prio.toNat * 2 ^ 26 + pgn.toNat * 2 ^ 8 + sa.toNat
    (idBuild prio pgn sa da).toNat = if t / 2 ^ 16 % 2 ^ 8 < 240 then t ||| da.toNat * 2 ^ 8 else t := by
  intro t
  have ht : (prio ++ pgn ++ sa : Ident).toNat = t := packedFields_toNat prio pgn sa
  by_cases h : t / 2 ^ 16 % 2 ^ 8 < 240
  · have hpdu1 : idIsPdu2 (prio ++ pgn ++ sa) = false := idIsPdu2_of_lt (ht.symm ▸ h)
    rw [if_pos h, idBuild, hpdu1, if_neg Bool.false_ne_true, BitVec.toNat_or, ht, destinationField_toNat]
  · have hpdu2 : idIsPdu2 (prio ++ pgn ++ sa) = true := idIsPdu2_of_le (ht.symm ▸ not_lt.mp h)
    rw [if_neg h, idBuild, hpdu2, if_pos rfl, ht]

/-- Settles O24: the operation gives `idBuild` of the four registers, whose value is the rule's. -/
theorem bldBuildPacksTheIdentifier : Obligations.BldBuildPacksTheIdentifier :=
  ⟨encodedAs_of_decodeOp 0x24 fun _ _ _ _ _ => rfl, fun s =>
    answers_of_give_field rfl (idBuild_toNat s.bldPri s.bldPgn s.bldSa s.bldDa)⟩

/-! ### The PGN wire codec -/

theorem packWord_pgnToLe_toNat (p : Pgn) : (packWord (pgnToLe p)).toNat =
    p.toNat % 2 ^ 8 + p.toNat / 2 ^ 8 % 2 ^ 8 * 2 ^ 8 + p.toNat / 2 ^ 16 * 2 ^ 16 := by
  have hp := p.isLt
  rw [packWord_toNat, List.take_of_length_le (by simp [pgnToLe])]
  simp only [pgnToLe, leValue_cons, leValue_nil, BitVec.toNat_setWidth_of_le (show 2 ≤ 8 by decide), extract_toNat]
  omega

theorem pgnFromLe_toNat (b0 b1 b2 : Byte) : (pgnFromLe b0 b1 b2).toNat =
    (b0.toNat + b1.toNat * 2 ^ 8 + b2.toNat * 2 ^ 16) % 2 ^ 18 := by
  have h0 := b0.isLt
  have h1 := b1.isLt
  rw [pgnFromLe, append_toNat (b2.extractLsb' 0 2 ++ b1) b0, append_toNat (b2.extractLsb' 0 2) b1, extract_toNat]
  omega

/-- Settles O26, by the values of the packed bytes and of the PGN read from three bytes. -/
theorem pgnWireCodecConverts : Obligations.PgnWireCodecConverts := by
  refine ⟨encodedAs_of_decodeOp 0x30 fun _ _ _ _ _ => rfl, encodedAs_of_decodeOp 0x31 fun w1 _ _ _ _ => ?_, fun s =>
    ⟨fun p => answers_of_give_toNat rfl (packWord_pgnToLe_toNat p),
      fun b0 b1 b2 => answers_of_give_field rfl (pgnFromLe_toNat b0 b1 b2)⟩⟩
  rw [← extractLsb'_eq_ofNat_div w1 8, ← extractLsb'_eq_ofNat_div w1 16]
  rfl

end Sys2Proof
end

section
/-! SUPPORT. The Slot codec and the raw field operations (41_slot.md): the blocks they are decoded from, the operations of
one shape as one shared meaning, the comparison and the clamp, and what each operation answers. -/

namespace Sys2Proof

open Sys2Proof.Machine

/-! ### Encodings with a modifier -/

/-- An operation has the encoding that the arm of its opcode makes of its modifier. -/
theorem encodedAs_of_decodeOp_modifier {w0 : Word} (op modifier : Byte)
    {f : Word → Word → Word → Word → Word → Instr} (hw : w0 = headerWord op modifier)
    (h : ∀ w1 w2 w3 w4 w5, decodeOp op modifier ⟨w0, w1, w2, w3, w4, w5⟩ = .ok (f w1 w2 w3 w4 w5)) :
    encodedAs w0 f := by
  subst hw
  exact fun w1 w2 w3 w4 w5 => (decode_header op modifier w1 w2 w3 w4 w5).trans (h w1 w2 w3 w4 w5)

/-- SLOT.DEC: the modifier is the raw type's code (R80, R83). -/
theorem decInstr_encodedAs (t : RawType) : encodedAs (BitVec.ofNat 32 (0x40 * 2 ^ 24 + t.code * 2 ^ 16))
    (fun w1 w2 w3 w4 w5 => decInstr t w1 ⟨w2, w3, w4, w5⟩) :=
  encodedAs_of_decodeOp_modifier 0x40 (BitVec.ofNat 8 t.code) (by cases t <;> rfl)
    fun _ _ _ _ _ => by cases t <;> rfl

/-- SLOT.ENC of None: MOD[7] is 0 (R77, R80). -/
theorem encInstr_none_encodedAs (t : RawType) : encodedAs (BitVec.ofNat 32 (0x41 * 2 ^ 24 + t.code * 2 ^ 16))
    (fun _ w2 w3 w4 w5 => encInstr t none ⟨w2, w3, w4, w5⟩) :=
  encodedAs_of_decodeOp_modifier 0x41 (BitVec.ofNat 8 t.code) (by cases t <;> rfl)
    fun _ _ _ _ _ => by cases t <;> rfl

/-- SLOT.ENC of Some: MOD[7] is 1, the value in W1 (R77, R80). -/
theorem encInstr_some_encodedAs (t : RawType) :
    encodedAs (BitVec.ofNat 32 (0x41 * 2 ^ 24 + 2 ^ 23 + t.code * 2 ^ 16))
      (fun w1 w2 w3 w4 w5 => encInstr t (some w1) ⟨w2, w3, w4, w5⟩) :=
  encodedAs_of_decodeOp_modifier 0x41 (BitVec.ofNat 8 (2 ^ 7 + t.code)) (by cases t <;> rfl)
    fun _ _ _ _ _ => by cases t <;> rfl

/-! ### SLOT.DEC -/

theorem slotLegal_of_not_legalDescriptor {d : SlotDesc} (hd : ¬ legalDescriptor d) : slotLegal d = false :=
  Bool.eq_false_iff.mpr (mt (slotLegal_iff d).mp hd)

section
variable {t : RawType} {r : Nat} {d : SlotDesc} {s : State}

theorem slotDec_of_not_legal (hd : ¬ legalDescriptor d) : slotDec t r d s = raise .slotDomain s := by
  simpa [slotLegal_of_not_legalDescriptor hd] using slotDec_cases t r d s

theorem slotDec_of_sentinel (hd : legalDescriptor d) (hr : r = t.sentinel) : slotDec t r d s = finish 0 0 0 s := by
  simpa [(slotLegal_iff d).mpr hd, hr] using slotDec_cases t r d s

theorem slotDec_of_ne_sentinel (hd : legalDescriptor d) (hr : r ≠ t.sentinel) :
    slotDec t r d s = finish (f32ToBits (slotValue (t.value r) d)) 1 0 s := by
  simpa [(slotLegal_iff d).mpr hd, hr] using slotDec_cases t r d s

end

/-- SLOT.DEC of every raw type is the shared decode of the low bits of the raw word (R147). -/
theorem exec_decInstr (t : RawType) (raw : Word) (d : SlotDesc) (s : State) :
    exec (decInstr t raw d) s = slotDec t (raw.toNat % 2 ^ t.bits) d s := by
  have h32 : raw.toNat % 2 ^ 32 = raw.toNat := Nat.mod_eq_of_lt raw.isLt
  cases t with
  | u8 | u16 | i8 | i16 => rfl
  | u32 => exact congrArg (slotDec .u32 · d s) h32.symm
  | i32 => exact congrArg (slotDec .i32 · d s) h32.symm

theorem Machine.RawType.value_eq (t : RawType) (r : Nat) :
    t.value r = if t.signed = true ∧ 2 ^ (t.bits - 1) ≤ r then (r : Int) - 2 ^ t.bits else r := by
  rw [RawType.value, Nat.cast_pow, Nat.cast_ofNat]

/-- Settles O28, by the three ends of the shared decode. -/
theorem slotDecFollowsItsRule : Obligations.SlotDecFollowsItsRule := by
  intro t raw d s r n x
  refine ⟨decInstr_encodedAs t, fun hd => ?_, fun hd hr => ?_, fun hd hr => ?_⟩
  · exact (exec_decInstr t raw d s).trans (slotDec_of_not_legal hd)
  · exact (exec_decInstr t raw d s).trans (slotDec_of_sentinel hd hr)
  · calc exec (decInstr t raw d) s
      _ = slotDec t r d s := exec_decInstr t raw d s
      _ = finish (f32ToBits (slotValue (t.value r) d)) 1 0 s := slotDec_of_ne_sentinel hd hr
      _ = finish (f32ToBits (slotValue n d)) 1 0 s := by rw [RawType.value_eq]

/-! ### SLOT.ENC -/

section
variable {t : RawType} {value : Option Word} {w : Word} {d : SlotDesc} {s : State}

theorem slotEnc_of_not_legal (hd : ¬ legalDescriptor d) : slotEnc t value d s = raise .slotDomain s := by
  simpa [slotLegal_of_not_legalDescriptor hd] using slotEnc_cases t value d s

theorem slotEnc_none (hd : legalDescriptor d) :
    slotEnc t none d s = give (BitVec.ofNat 32 t.sentinel) s := by
  simpa [(slotLegal_iff d).mpr hd] using slotEnc_cases t none d s

theorem slotEnc_of_nan (hd : legalDescriptor d) (hw : nanPattern w) :
    slotEnc t (some w) d s = raise .slotDomain s := by
  simpa [(slotLegal_iff d).mpr hd, f32OfBits_eq_nan, hw] using slotEnc_cases t (some w) d s

theorem slotEnc_of_not_nan (hd : legalDescriptor d) (hw : ¬ nanPattern w) :
    slotEnc t (some w) d s = give (t.pattern (slotRaw t (f32OfBits w) d)) s := by
  simpa [(slotLegal_iff d).mpr hd, f32OfBits_eq_nan, hw] using slotEnc_cases t (some w) d s

end

/-- SLOT.ENC of every raw type is the shared encode (R148). -/
theorem exec_encInstr (t : RawType) (value : Option Word) (d : SlotDesc) (s : State) :
    exec (encInstr t value d) s = slotEnc t value d s := by
  cases t <;> rfl

/-- The raw pattern is the residue of the integer (R143). -/
theorem Machine.RawType.pattern_eq (t : RawType) (n : Int) :
    t.pattern n = BitVec.ofNat 32 (n % (2 ^ t.bits : Int)).toNat := by
  have hn : 0 ≤ n % (2 ^ t.bits : Int) := Int.emod_nonneg n (by positivity)
  rw [RawType.pattern, Nat.cast_pow, Nat.cast_ofNat, ← BitVec.ofInt_natCast, Int.toNat_of_nonneg hn]

/-- Settles O30, by the four ends of the shared encode. -/
theorem slotEncFollowsItsRule : Obligations.SlotEncFollowsItsRule := by
  intro t w d s c n
  refine ⟨encInstr_none_encodedAs t, encInstr_some_encodedAs t, fun hd => ⟨?_, ?_⟩, fun hd => ?_, fun hd hw => ?_,
    fun hd hw => ?_⟩
  · exact (exec_encInstr t none d s).trans (slotEnc_of_not_legal hd)
  · exact (exec_encInstr t (some w) d s).trans (slotEnc_of_not_legal hd)
  · exact (exec_encInstr t none d s).trans (slotEnc_none hd)
  · exact (exec_encInstr t (some w) d s).trans (slotEnc_of_nan hd hw)
  · exact answers_of_give ((exec_encInstr t (some w) d s).trans (slotEnc_of_not_nan hd hw)) (RawType.pattern_eq t n)

/-! ### The comparison and the clamp -/

theorem f32Lt_fin_eq_false (s t : Bool) (m n : Nat) (e f : Int) :
    f32Lt (.fin s m e) (.fin t n f) = false ↔ f32Rat t n f ≤ f32Rat s m e := by
  rw [← Bool.not_eq_true, f32Lt_fin, not_lt]

theorem f32Lt_inf (s t : Bool) : f32Lt (.inf s) (.inf t) = true ↔ s = true ∧ t = false := by
  rw [f32Lt, Bool.and_eq_true, Bool.not_eq_true']

theorem f32Lt_nan_right (a : F32) : f32Lt a .nan = false := by
  cases a <;> rfl

section
variable {x lo hi : F32}

theorem f32Clamp_of_lt_lower (h : f32Lt x lo = true) : f32Clamp x lo hi = lo := if_pos h

theorem f32Clamp_of_upper_lt (h : f32Lt x lo = false) (h' : f32Lt hi x = true) : f32Clamp x lo hi = hi := by
  rw [f32Clamp, h, if_neg Bool.false_ne_true, if_pos h']

theorem f32Clamp_of_between (h : f32Lt x lo = false) (h' : f32Lt hi x = false) : f32Clamp x lo hi = x := by
  rw [f32Clamp, h, h', if_neg Bool.false_ne_true, if_neg Bool.false_ne_true]

end

/-- Settles O33: the comparison by the constructors of its operands, and the clamp by its conditional over it. -/
theorem clampFollowsTheComparison : Obligations.ClampFollowsTheComparison := by
  refine ⟨f32Lt_fin, fun _ _ _ => ⟨rfl, rfl, rfl, rfl⟩, f32Lt_inf, fun a => ⟨rfl, f32Lt_nan_right a⟩,
    fun _ _ _ => ⟨f32Clamp_of_lt_lower, f32Clamp_of_upper_lt, f32Clamp_of_between⟩, ?_⟩
  intro a b j k p q hle
  refine ⟨f32Clamp_of_lt_lower rfl, f32Clamp_of_upper_lt rfl rfl, fun s m e =>
    ⟨fun hv => ?_, fun hv => ?_, fun h h' => ?_⟩⟩
  · exact f32Clamp_of_lt_lower ((f32Lt_fin ..).mpr hv)
  · exact f32Clamp_of_upper_lt ((f32Lt_fin_eq_false ..).mpr (hle.trans hv.le)) ((f32Lt_fin ..).mpr hv)
  · exact f32Clamp_of_between ((f32Lt_fin_eq_false ..).mpr h) ((f32Lt_fin_eq_false ..).mpr h')

/-! ### Field headers -/

/-- The modifier of FLD.GET or FLD.PUT: LEN in bits 7..4, the ignored bit 2, the width code in bits 1..0 (R80). -/
def fieldModifier (w : FieldWidth) (len : BitVec 4) (sign : Bool) : Byte :=
  BitVec.ofNat 8 (len.toNat * 2 ^ 4 + sign.toNat * 2 ^ 2 + w.code)

section
variable (w : FieldWidth) (len : BitVec 4) (sign : Bool)

theorem Machine.FieldWidth.code_le : w.code ≤ 2 := by
  cases w <;> decide

theorem fieldModifier_toNat :
    (fieldModifier w len sign).toNat = len.toNat * 2 ^ 4 + sign.toNat * 2 ^ 2 + w.code := by
  have hw := w.code_le
  have hs := sign.toNat_le
  have hl := len.isLt
  rw [fieldModifier, BitVec.toNat_ofNat, Nat.mod_eq_of_lt]
  omega

theorem fieldHeader_eq (op : Byte) : fieldHeader op.toNat w len sign = headerWord op (fieldModifier w len sign) := by
  have hop := op.isLt
  have hm := (fieldModifier w len sign).isLt
  have hs : (if sign then 2 ^ 18 else 0) = sign.toNat * 2 ^ 18 := by cases sign <;> rfl
  apply BitVec.eq_of_toNat_eq
  rw [headerWord_toNat, fieldHeader, hs, BitVec.toNat_ofNat]
  rw [fieldModifier_toNat] at hm ⊢
  omega

theorem fieldModifier_reserved : (fieldModifier w len sign).extractLsb' 3 1 = 0 := by
  have hw := w.code_le
  have hs := sign.toNat_le
  apply BitVec.eq_of_toNat_eq
  rw [extract_toNat, fieldModifier_toNat, BitVec.ofNat_eq_ofNat, BitVec.toNat_zero]
  omega

theorem fieldModifier_code : ((fieldModifier w len sign).extractLsb' 0 2).toNat = w.code := by
  have hw := w.code_le
  rw [extract_toNat, fieldModifier_toNat]
  omega

theorem fieldModifier_len : (fieldModifier w len sign).extractLsb' 4 4 = len := by
  have hw := w.code_le
  have hs := sign.toNat_le
  have hl := len.isLt
  apply BitVec.eq_of_toNat_eq
  rw [extract_toNat, fieldModifier_toNat]
  omega

/-- FLD.GET, whatever its sign bit (R153). -/
theorem getInstr_encodedAs :
    encodedAs (fieldHeader 0x48 w len sign) (fun w1 w2 w3 _ _ => getInstr w len w1 w2 w3) :=
  encodedAs_of_decodeOp_modifier 0x48 _ (fieldHeader_eq w len sign 0x48) fun w1 w2 w3 w4 w5 => by
    change decodeFldGet _ _ = _
    rw [decodeFldGet, fieldModifier_reserved, fieldModifier_code, fieldModifier_len]
    cases w <;> rfl

/-- FLD.PUT, whatever its sign bit (R154). -/
theorem putInstr_encodedAs :
    encodedAs (fieldHeader 0x49 w len sign) (fun w1 w2 w3 w4 _ => putInstr w len w1 w2 w3 w4) :=
  encodedAs_of_decodeOp_modifier 0x49 _ (fieldHeader_eq w len sign 0x49) fun w1 w2 w3 w4 w5 => by
    change decodeFldPut _ _ = _
    rw [decodeFldPut, fieldModifier_reserved, fieldModifier_code, fieldModifier_len]
    cases w <;> rfl

end

/-! ### FLD.GET -/

/-- FLD.GET of every width is the shared read (R153). -/
theorem exec_getInstr (w : FieldWidth) (len : BitVec 4) (k pw0 pw1 : Word) (s : State) :
    exec (getInstr w len k pw0 pw1) s = fldGet w.bytes len k pw0 pw1 s := by
  cases w <;> rfl

/-- Settles O36, by the two ends of the shared read. -/
theorem fldGetReadsLittleEndian : Obligations.FldGetReadsLittleEndian := by
  intro w len k pw0 pw1 s pay
  refine ⟨getInstr_encodedAs w len, ?_⟩
  rcases fldGet_cases w.bytes len k pw0 pw1 s with ⟨hlen, h⟩ | ⟨hlen, h⟩
  · exact ⟨fun _ => (exec_getInstr w len k pw0 pw1 s).trans h, fun hfits => absurd hlen hfits.not_gt⟩
  · exact ⟨fun hshort => absurd hlen hshort.not_ge, fun _ => (exec_getInstr w len k pw0 pw1 s).trans h⟩

/-! ### FLD.PUT -/

/-- The low bytes of a raw pattern lie in its low bits. -/
theorem rawBytes_setWidth (raw : Word) {n w : Nat} (h : 8 * w ≤ n) (hn : n ≤ 32) :
    rawBytes ((raw.setWidth n).setWidth 32) w = rawBytes raw w := by
  refine List.map_congr_left fun j hj => ?_
  have hj := List.mem_range.mp hj
  apply BitVec.eq_of_getLsbD_eq
  intro i hi
  simp [wordByte, show 8 * j + i < n by omega, show 8 * j + i < 32 by omega]

theorem fldPut_setWidth {n w : Nat} (h : 8 * w ≤ n) (hn : n ≤ 32) (len : BitVec 4) (k pw0 pw1 raw : Word)
    (s : State) :
    fldPut w len k pw0 pw1 ((raw.setWidth n).setWidth 32) s = fldPut w len k pw0 pw1 raw s := by
  rw [fldPut, fldPut, rawBytes_setWidth raw h hn]

/-- FLD.PUT of every width is the shared write of the raw word (R154). -/
theorem exec_putInstr (w : FieldWidth) (len : BitVec 4) (k pw0 pw1 raw : Word) (s : State) :
    exec (putInstr w len k pw0 pw1 raw) s = fldPut w.bytes len k pw0 pw1 raw s := by
  cases w with
  | w1 => exact fldPut_setWidth (n := 8) (w := 1) (by decide) (by decide) len k pw0 pw1 raw s
  | w2 => exact fldPut_setWidth (n := 16) (w := 2) (by decide) (by decide) len k pw0 pw1 raw s
  | w4 => rfl

theorem rawBytes_length (raw : Word) (w : Nat) : (rawBytes raw w).length = w := by
  rw [rawBytes, List.length_map, List.length_range]

/-- The positions of the payload that FLD.PUT returns: the field's bytes in the field, the operand's outside (R154). -/
theorem payByte_putBytes (pw0 pw1 raw : Word) {k w : Nat} (h : k + w ≤ 8) (j : Nat) :
    let pay := putBytes (payloadBytes pw0 pw1) k (rawBytes raw w)
    payByte (payWord0 pay) (payWord1 pay) j =
      if k ≤ j ∧ j < k + w then raw.toNat / 2 ^ (8 * (j - k)) % 2 ^ 8 else payByte pw0 pw1 j := by
  intro pay
  have hfit : k + (rawBytes raw w).length ≤ (payloadBytes pw0 pw1).length := by
    rwa [rawBytes_length, payloadBytes_length]
  rw [payByte_payWords (putBytes_length hfit), putBytes_getD hfit, rawBytes_length]
  split
  next hj => rw [rawBytes_getD raw w _ (by omega), wordByte_toNat]; rfl
  next => rw [payloadBytes_getD]

/-- Settles O37, by the two ends of the shared write and the positions of the payload it returns. -/
theorem fldPutWritesLittleEndian : Obligations.FldPutWritesLittleEndian := by
  intro w len k pw0 pw1 raw s
  refine ⟨putInstr_encodedAs w len, ?_⟩
  rcases fldPut_cases w.bytes len k pw0 pw1 raw s with ⟨hlen, h⟩ | ⟨hlen, h⟩
  · exact ⟨fun _ => (exec_putInstr w len k pw0 pw1 raw s).trans h, fun hfits => absurd hlen hfits.not_gt⟩
  · exact ⟨fun hshort => absurd hlen hshort.not_ge, fun _ =>
      ⟨_, _, (exec_putInstr w len k pw0 pw1 raw s).trans h, fun j _ =>
        payByte_putBytes pw0 pw1 raw (hlen.trans (frameLen_le len)) j⟩⟩

end Sys2Proof
end

section
/-! SUPPORT. The sender operations (42_transport_sender.md): what each answers in each state, the identifier of an emitted
frame as arithmetic, the bytes of the two kinds of frame, and closing a session of either bank. -/

namespace Sys2Proof

open Sys2Proof.Machine

/-! ### Writing the payload -/

section
variable {a : Word} (v : Byte) {s : State}

theorem exec_txbWr_of_session (h : s.txState ≠ .idle) : exec (.txbWr a v) s = raise .busy s := if_pos h

theorem exec_txbWr_of_idle (h : s.txState = .idle) :
    exec (.txbWr a v) s = if 1785 ≤ a.toNat then raise .badAddress s else done (s.writeTx a.toNat v) := by
  change execTxbWr a v s = _
  simp only [execTxbWr, h, ne_eq, not_true, if_false, Bool.not_eq_true', backed_eq_false]

end

/-- Settles O38: the two refusals, and the read of a buffer after a write. -/
theorem txbWrWritesOneByteWhileIdle : Obligations.TxbWrWritesOneByteWhileIdle := by
  refine ⟨encodedAs_of_decodeOp 0x50 fun _ _ _ _ _ => rfl, fun a v s =>
    ⟨fun hs => ?_, fun hs ha => ?_, fun hs ha => ?_⟩⟩
  · exact exec_txbWr_of_session v hs
  · exact (exec_txbWr_of_idle v hs).trans (if_pos ha)
  · refine ⟨(s.writeTx a.toNat v).answer ⟨0, 0, 0, 0⟩, (exec_txbWr_of_idle v hs).trans (if_neg (by omega)), rfl, ?_,
      fun b hb => ?_⟩
    · rw [State.readByte_answer, State.readByte_writeTx, if_pos rfl]
    · rw [State.readByte_answer, State.readByte_writeTx, if_neg hb]

/-! ### Opening, counting, closing -/

/-- Settles O39, by the two branches of the operation. -/
theorem txsOpenConstructsASession : Obligations.TxsOpenConstructsASession :=
  ⟨encodedAs_of_decodeOp 0x51 fun _ _ _ _ _ => rfl, fun _ _ _ _ =>
    ⟨fun hlen => if_pos hlen, fun hlen => if_neg hlen.not_gt⟩⟩

/-- The packet count is the least number of chunks of seven bytes that holds the total (R173). -/
theorem packetCount_spec (total : BitVec 11) :
    total.toNat ≤ 7 * packetCount total ∧ 7 * packetCount total < total.toNat + 7 := by
  simp only [packetCount, Config.tpChunk]
  omega

/-- Settles O40: with a session the operation gives the packet count, which is the ceiling. -/
theorem txsCountIsTheCeiling : Obligations.TxsCountIsTheCeiling := by
  refine ⟨encodedAs_of_decodeOp 0x52 fun _ _ _ _ _ => rfl, fun s => ⟨fun hs => if_pos hs, fun hs => ?_⟩⟩
  obtain ⟨hle, hlt⟩ := packetCount_spec s.txTotal
  exact ⟨packetCount s.txTotal, hle, hlt, answers_of_give (if_neg hs) rfl⟩

/-- Settles O45: each operation ends with OK after one register update. -/
theorem closeMakesTheBankIdle : Obligations.CloseMakesTheBankIdle :=
  ⟨encodedAs_of_decodeOp 0x54 fun _ _ _ _ _ => rfl, encodedAs_of_decodeOp 0x66 fun _ _ _ _ _ => rfl, fun s =>
    ⟨done_eq s.closeTx, done_eq s.closeRx⟩⟩

/-! ### The identifier of an emitted frame -/

/-- A byte ORed into the empty bits 15..8 of a number is added to it. -/
theorem or_byte_eq_add {t : Nat} (ht : t / 2 ^ 8 % 2 ^ 8 = 0) (b : Byte) :
    t ||| b.toNat * 2 ^ 8 = t + b.toNat * 2 ^ 8 := by
  have hb := b.isLt
  have hlow : t % 2 ^ 8 < 2 ^ 8 := Nat.mod_lt _ (by decide)
  have hsplit : t = (t / 2 ^ 16) <<< 16 + t % 2 ^ 8 := by rw [Nat.shiftLeft_eq]; omega
  calc t ||| b.toNat * 2 ^ 8
    _ = (t / 2 ^ 16) <<< 16 ||| (b.toNat <<< 8 ||| t % 2 ^ 8) := by
        conv_lhs => rw [hsplit, Nat.shiftLeft_add_eq_or_of_lt (by omega)]
        rw [Nat.or_assoc, Nat.or_comm (t % 2 ^ 8), Nat.shiftLeft_eq b.toNat]
    _ = (t / 2 ^ 16) <<< 16 + (b.toNat <<< 8 + t % 2 ^ 8) := by
        rw [← Nat.shiftLeft_add_eq_or_of_lt hlow, ← Nat.shiftLeft_add_eq_or_of_lt (by rw [Nat.shiftLeft_eq]; omega)]
    _ = t + b.toNat * 2 ^ 8 := by rw [Nat.shiftLeft_eq b.toNat]; omega

/-- The value of the identifier of a frame that the sender emits (R179). -/
def emittedId (pgn : Pgn) (s : State) : Nat :=
  s.params.tpPriority.toNat * 2 ^ 26 + pgn.toNat * 2 ^ 8 + s.params.tpDa.toNat * 2 ^ 8 + s.txSa.toNat

/-- Under a PDU1 PGN, whose low byte is zero, the destination fills that byte. -/
theorem txIdent_toNat {pgn : Pgn} (hlow : pgn.toNat % 2 ^ 8 = 0) (hpdu1 : pgn.toNat / 2 ^ 8 % 2 ^ 8 < 240) (s : State) :
    (txIdent pgn s).toNat = emittedId pgn s := by
  have hsa := s.txSa.isLt
  refine (idBuild_toNat s.params.tpPriority pgn s.txSa s.params.tpDa).trans ?_
  rw [if_pos (by omega), or_byte_eq_add (by omega), emittedId]
  omega

/-- The identifier word of a frame on such a PGN. -/
theorem txIdent_setWidth {pgn : Pgn} (hlow : pgn.toNat % 2 ^ 8 = 0) (hpdu1 : pgn.toNat / 2 ^ 8 % 2 ^ 8 < 240)
    (s : State) : (txIdent pgn s).setWidth 32 = BitVec.ofNat 32 (emittedId pgn s) := by
  rw [← txIdent_toNat hlow hpdu1, BitVec.ofNat_toNat]

/-- Bits 25..16 of the identifier word are those of the PGN. -/
theorem emittedId_pgnBits {pgn : Pgn} (hlow : pgn.toNat % 2 ^ 8 = 0) (s : State) :
    (BitVec.ofNat 32 (emittedId pgn s)).toNat / 2 ^ 16 % 2 ^ 10 = pgn.toNat / 2 ^ 8 := by
  have hpgn := pgn.isLt
  have hda := s.params.tpDa.isLt
  have hsa := s.txSa.isLt
  rw [BitVec.toNat_ofNat, emittedId]
  omega

/-! ### TXS.NEXT by the sender's state -/

section
variable {s : State}

theorem execTxsNext_of_idle (hs : s.txState = .idle) : execTxsNext s = raise .noSession s := by
  simpa [hs] using execTxsNext_cases s

theorem execTxsNext_of_connectionManagement (hs : s.txState = .connectionManagement) : execTxsNext s = sendBam s := by
  simpa [hs] using execTxsNext_cases s

theorem execTxsNext_of_lt_count (hs : s.txState = .dataTransfer) (hi : s.txIdx.toNat < packetCount s.txTotal) :
    execTxsNext s = sendData s := by
  simpa [hs, hi, hi.not_ge] using execTxsNext_cases s

theorem execTxsNext_of_count_le (hs : s.txState = .dataTransfer) (hi : packetCount s.txTotal ≤ s.txIdx.toNat) :
    execTxsNext s = raise .exhausted s := by
  simpa [hs, hi, hi.not_gt] using execTxsNext_cases s

end

/-! ### The BAM frame -/

/-- The eight bytes of the BAM layout, of a legal total (R65). -/
def bamLayout (total : Nat) (pgn : Pgn) : List Nat :=
  [0x20, total % 2 ^ 8, total / 2 ^ 8, (total + 6) / 7, 0xFF, pgn.toNat % 2 ^ 8, pgn.toNat / 2 ^ 8 % 2 ^ 8,
    pgn.toNat / 2 ^ 16]

theorem bamPayload_toNat {total : BitVec 11} (h : total.toNat ≤ 1785) (pgn : Pgn) :
    (bamPayload total pgn).map BitVec.toNat = bamLayout total.toNat pgn := by
  have hpgn := pgn.isLt
  have hcount : packetCount total < 2 ^ 8 := by
    simp only [packetCount, Config.tpChunk]
    omega
  have htotal : total.toNat / 2 ^ 8 % 2 ^ 3 = total.toNat / 2 ^ 8 := by omega
  have hpage : pgn.toNat / 2 ^ 16 % 2 ^ 2 = pgn.toNat / 2 ^ 16 := by omega
  simp only [bamPayload, pgnToLe, List.cons_append, List.nil_append, List.map_cons, List.map_nil, extract_toNat,
    BitVec.toNat_setWidth_of_le (show 3 ≤ 8 by decide), BitVec.toNat_setWidth_of_le (show 2 ≤ 8 by decide),
    BitVec.toNat_ofNat, Nat.mod_eq_of_lt hcount, htotal, hpage, pow_zero, Nat.div_one]
  rfl

/-- Byte `j` of the BAM frame's payload words. -/
theorem payByte_bamPayload {total : BitVec 11} (h : total.toNat ≤ 1785) (pgn : Pgn) (j : Nat) :
    payByte (payWord0 (bamPayload total pgn)) (payWord1 (bamPayload total pgn)) j =
      (bamLayout total.toNat pgn).getD j 0 := by
  rw [payByte_payWords (bamPayload_length total pgn), ← bamPayload_toNat h]
  exact (List.getD_map _ 0 BitVec.toNat).symm

/-- In ConnectionManagement TXS.NEXT emits the BAM frame and starts the data phase, whatever the total (R175). -/
theorem exec_txsNext_bam {s : State} (hs : s.txState = .connectionManagement) :
    exec .txsNext s = .next { s with
      txState := .dataTransfer, txIdx := 0,
      response := some ⟨0x800, BitVec.ofNat 32 (emittedId Config.pgnTpCm s), payWord0 (bamPayload s.txTotal s.txPgn),
        payWord1 (bamPayload s.txTotal s.txPgn)⟩ } := by
  rw [← txIdent_setWidth (by decide) (by decide)]
  exact execTxsNext_of_connectionManagement hs

/-- Settles O41: the frame's identifier, and the bytes of the BAM layout. -/
theorem firstTxsNextEmitsTheBamFrame : Obligations.FirstTxsNextEmitsTheBamFrame := by
  intro s hs ht
  have hbyte := payByte_bamPayload ht s.txPgn
  exact ⟨_, _, exec_txsNext_bam hs, hbyte 0, hbyte 1, hbyte 2, hbyte 3, hbyte 4, hbyte 5, hbyte 6, hbyte 7⟩

/-! ### A DataTransfer frame -/

/-- The payload of the next DataTransfer frame of a session (R176). -/
def nextDtPayload (s : State) : List Byte :=
  dtPayload (s.txIdx + 1) (txChunk (s.txIdx.toNat * 7) (min 7 (s.txTotal.toNat - s.txIdx.toNat * 7)) s)

section
variable {s : State}

theorem nextDtPayload_length (s : State) : (nextDtPayload s).length = 8 :=
  dtPayload_length (by rw [txChunk_length]; exact Nat.min_le_left _ _)

/-- Byte 0 is the 1-based sequence number. -/
theorem payByte_nextDtPayload_zero (h : s.txIdx.toNat < 255) :
    payByte (payWord0 (nextDtPayload s)) (payWord1 (nextDtPayload s)) 0 = s.txIdx.toNat + 1 := by
  rw [payByte_payWords (nextDtPayload_length s)]
  exact BitVec.toNat_add_of_lt (y := 1) (by change _ + 1 < 256; omega)

/-- Bytes 1 to 7 are the bytes of TXBUF below the total, and padding. -/
theorem payByte_nextDtPayload_succ (s : State) {i : Nat} (hi : i < 7) :
    payByte (payWord0 (nextDtPayload s)) (payWord1 (nextDtPayload s)) (i + 1) =
      if 7 * s.txIdx.toNat + i < s.txTotal.toNat then (s.byteAt .txBuf (7 * s.txIdx.toNat + i)).toNat else 0xFF := by
  rw [payByte_payWords (nextDtPayload_length s), nextDtPayload, dtPayload_getD _ _ i hi, Nat.mul_comm s.txIdx.toNat 7]
  split
  next h => rw [txChunk_getD _ _ s i (by omega)]
  next h =>
    rw [List.getD_eq_default _ _ (by rw [txChunk_length]; omega)]
    rfl

/-- In DataTransfer with a frame left TXS.NEXT emits it and advances the index (R176). -/
theorem exec_txsNext_data (hs : s.txState = .dataTransfer) (ht : s.txTotal.toNat ≤ 1785)
    (hi : s.txIdx.toNat < packetCount s.txTotal) :
    exec .txsNext s = .next { s with
      txIdx := s.txIdx + 1,
      response := some ⟨0x800, BitVec.ofNat 32 (emittedId Config.pgnTpDt s), payWord0 (nextDtPayload s),
        payWord1 (nextDtPayload s)⟩ } := by
  rw [← txIdent_setWidth (by decide) (by decide)]
  exact (execTxsNext_of_lt_count hs hi).trans (sendData_eq ht hi)

end

/-- Settles O42: the frame's identifier, its sequence number, and its chunk with padding. -/
theorem txsNextEmitsTheNextDataFrame : Obligations.TxsNextEmitsTheNextDataFrame := by
  intro s hs ht hi
  exact ⟨_, _, exec_txsNext_data hs ht hi, payByte_nextDtPayload_zero (by omega),
    fun i => payByte_nextDtPayload_succ s⟩

/-! ### Every case of TXS.NEXT -/

/-- Settles O44, by the sender's state and index, with the two frames of O41 and O42. -/
theorem txsNextFollowsTheState : Obligations.TxsNextFollowsTheState := by
  refine ⟨encodedAs_of_decodeOp 0x53 fun _ _ _ _ _ => rfl, fun s =>
    ⟨fun hs => ?_, fun hs => ?_, fun hs ht hi => ?_, fun hs hi => ?_⟩⟩
  · exact execTxsNext_of_idle hs
  · refine ⟨_, _, _, exec_txsNext_bam hs, ?_, emittedId_pgnBits (pgn := Config.pgnTpCm) (by decide) s⟩
    rw [payByte_payWords (bamPayload_length _ _)]
    rfl
  · exact ⟨_, _, _, exec_txsNext_data hs ht hi, payByte_nextDtPayload_zero (by omega),
      emittedId_pgnBits (pgn := Config.pgnTpDt) (by decide) s⟩
  · exact execTxsNext_of_count_le hs hi

end Sys2Proof
end

section
/-! SUPPORT. The receiver operations (43_transport_receiver.md): RXS.FEED by the PGN of its frame, the session that a
BAM frame opens, the chunk that a DataTransfer frame stores, and the queries of a session. -/

namespace Sys2Proof

open Sys2Proof.Machine

/-! ### RXS.FEED by the frame's PGN -/

section
variable {id : Ident} (len : BitVec 4) (pw0 pw1 : Word) (s : State)

theorem exec_rxsFeed_connection (h : id.toNat / 2 ^ 16 % 2 ^ 10 = 0xEC) :
    exec (.rxsFeed len id pw0 pw1) s = feedConnection (frameLen len) id (payloadBytes pw0 pw1) s :=
  feedFrame_tpCm h _ _ s

theorem exec_rxsFeed_data (h : id.toNat / 2 ^ 16 % 2 ^ 10 = 0xEB) :
    exec (.rxsFeed len id pw0 pw1) s = feedData (frameLen len) (payloadBytes pw0 pw1) s :=
  feedFrame_tpDt h _ _ s

theorem exec_rxsFeed_other (hcm : id.toNat / 2 ^ 16 % 2 ^ 10 ≠ 0xEC) (hdt : id.toNat / 2 ^ 16 % 2 ^ 10 ≠ 0xEB) :
    exec (.rxsFeed len id pw0 pw1) s = raise .notTransport s :=
  feedFrame_other hcm hdt _ _ s

end

/-- RXS.FEED: the modifier is the length operand (R79, R80). -/
theorem rxsFeed_encodedAs (len : BitVec 4) : encodedAs (BitVec.ofNat 32 (0x60 * 2 ^ 24 + len.toNat * 2 ^ 16))
    (fun w1 w2 w3 _ _ => .rxsFeed len (BitVec.ofNat 29 w1.toNat) w2 w3) := by
  have hlen := len.isLt
  have hm : (len.setWidth 8).toNat = len.toNat := BitVec.toNat_setWidth_of_le (by decide)
  have hhigh : (len.setWidth 8).extractLsb' 4 4 = 0 := by
    apply BitVec.eq_of_toNat_eq
    rw [extract_toNat, hm, BitVec.ofNat_eq_ofNat, BitVec.toNat_zero]
    omega
  have hlow : (len.setWidth 8).extractLsb' 0 4 = len := by
    apply BitVec.eq_of_toNat_eq
    rw [extract_toNat, hm]
    omega
  refine encodedAs_of_decodeOp_modifier 0x60 (len.setWidth 8) ?_ fun w1 _ _ _ _ => ?_
  · apply BitVec.eq_of_toNat_eq
    rw [headerWord_toNat, hm, BitVec.toNat_ofNat, Nat.mod_eq_of_lt (by omega)]
    rfl
  · change decodeRxsFeed _ _ = _
    rw [decodeRxsFeed, hhigh, hlow, extractLsb'_eq_ofNat_div w1 0 29, pow_zero, Nat.div_one]
    rfl

/-- Settles O49, by the encoding of RXS.FEED and the last branch of its dispatch. -/
theorem otherFramesAreNotTransport : Obligations.OtherFramesAreNotTransport :=
  ⟨rxsFeed_encodedAs, fun len _ pw0 pw1 s hcm hdt => exec_rxsFeed_other len pw0 pw1 s hcm hdt⟩

/-! ### A ConnectionManagement frame -/

section
variable {n : Nat} (id : Ident) {pay : List Byte} (s : State)

theorem feedConnection_of_short (hn : n < 8) : feedConnection n id pay s = raise .malformedInput s := if_pos hn

theorem feedConnection_of_violation (hn : 8 ≤ n)
    (hbad : pay.getD 0 0 ≠ 0x20 ∨ 1785 < leValue [pay.getD 1 0, pay.getD 2 0]) :
    feedConnection n id pay s = raise .protocolViolation s := by
  rcases feedConnection_cases n id pay s with ⟨hshort, _⟩ | ⟨_, _, h⟩ | ⟨_, hbam, hle, _⟩
  · exact absurd hn hshort.not_ge
  · exact h
  · exact absurd hbad (not_or.mpr ⟨not_not_intro hbam, hle.not_gt⟩)

theorem feedConnection_of_bam (hn : 8 ≤ n) (hbam : pay.getD 0 0 = 0x20)
    (hle : leValue [pay.getD 1 0, pay.getD 2 0] ≤ 1785) :
    feedConnection n id pay s =
      done (s.openRx (idSa id) (pgnFromLe (pay.getD 5 0) (pay.getD 6 0) (pay.getD 7 0))
        (BitVec.ofNat 11 (leValue [pay.getD 1 0, pay.getD 2 0]))) := by
  rcases feedConnection_cases n id pay s with ⟨hshort, _⟩ | ⟨_, hbad, _⟩ | ⟨_, _, _, h⟩
  · exact absurd hn hshort.not_ge
  · exact absurd hbad (not_or.mpr ⟨not_not_intro hbam, hle.not_gt⟩)
  · exact h

end

/-! ### The fields of a BAM frame as arithmetic over its payload words -/

theorem idSa_eq_ofNat (id : Ident) : idSa id = BitVec.ofNat 8 id.toNat := by
  rw [idSa, extractLsb'_eq_ofNat_div, pow_zero, Nat.div_one]

theorem pgnFromLe_eq_ofNat (b0 b1 b2 : Byte) :
    pgnFromLe b0 b1 b2 = BitVec.ofNat 18 (b0.toNat + 2 ^ 8 * b1.toNat + 2 ^ 16 * b2.toNat) := by
  apply BitVec.eq_of_toNat_eq
  rw [pgnFromLe_toNat, BitVec.toNat_ofNat, Nat.mul_comm (2 ^ 8), Nat.mul_comm (2 ^ 16)]

section
variable (pw0 pw1 : Word)

theorem payloadBytes_getD_zero_eq_bam : (payloadBytes pw0 pw1).getD 0 0 = 0x20 ↔ payByte pw0 pw1 0 = 0x20 := by
  rw [← payloadBytes_getD, ← BitVec.toNat_inj]
  rfl

theorem leValue_declared : leValue [(payloadBytes pw0 pw1).getD 1 0, (payloadBytes pw0 pw1).getD 2 0] =
    payByte pw0 pw1 1 + 2 ^ 8 * payByte pw0 pw1 2 := by
  rw [leValue_cons, leValue_cons, leValue_nil, payloadBytes_getD, payloadBytes_getD]
  rfl

/-- An accepted BAM frame opens a session with its source address, carried PGN and declared length (R192). -/
theorem exec_rxsFeed_bam {len : BitVec 4} {id : Ident} (s : State) (hid : id.toNat / 2 ^ 16 % 2 ^ 10 = 0xEC)
    (hn : 8 ≤ len.toNat) (hbam : payByte pw0 pw1 0 = 0x20)
    (hle : payByte pw0 pw1 1 + 2 ^ 8 * payByte pw0 pw1 2 ≤ 1785) :
    exec (.rxsFeed len id pw0 pw1) s =
      done (s.openRx (BitVec.ofNat 8 id.toNat)
        (BitVec.ofNat 18 (payByte pw0 pw1 5 + 2 ^ 8 * payByte pw0 pw1 6 + 2 ^ 16 * payByte pw0 pw1 7))
        (BitVec.ofNat 11 (payByte pw0 pw1 1 + 2 ^ 8 * payByte pw0 pw1 2))) := by
  rw [← leValue_declared] at hle ⊢
  have hopen := feedConnection_of_bam (n := frameLen len) id s (le_min hn le_rfl)
    ((payloadBytes_getD_zero_eq_bam pw0 pw1).mpr hbam) hle
  rw [exec_rxsFeed_connection len pw0 pw1 s hid, hopen, idSa_eq_ofNat, pgnFromLe_eq_ofNat]
  simp only [payloadBytes_getD]

end

/-- Settles O47: the three refusals of a ConnectionManagement frame, and the session that a BAM frame opens. -/
theorem fedBamFrameOpensASession : Obligations.FedBamFrameOpensASession := by
  intro len id pw0 pw1 s hid total
  have hfeed := exec_rxsFeed_connection len pw0 pw1 s hid
  refine ⟨fun hn => ?_, fun hn hbam => ?_, fun hn _ hlong => ?_, fun hn hbam hle => ?_⟩
  · exact hfeed.trans (feedConnection_of_short id s hn)
  · exact hfeed.trans (feedConnection_of_violation id s (le_min hn le_rfl)
      (.inl (mt (payloadBytes_getD_zero_eq_bam pw0 pw1).mp hbam)))
  · exact hfeed.trans (feedConnection_of_violation id s (le_min hn le_rfl) (.inr (by rwa [leValue_declared])))
  · exact ⟨_, exec_rxsFeed_bam pw0 pw1 s hid hn hbam hle, rfl, fun a =>
      (State.readByte_answer ..).trans (State.readByte_openRx ..)⟩

/-! ### A DataTransfer frame -/

section
variable {n : Nat} {pay : List Byte} {s : State}

theorem feedData_of_empty (hn : n < 1) : feedData n pay s = raise .malformedInput s := if_pos hn

theorem feedData_of_violation (hn : 1 ≤ n) (hbad : s.rxState = .idle ∨ (pay.getD 0 0).toNat = 0) :
    feedData n pay s = raise .protocolViolation s := by
  rcases feedData_cases n pay s with ⟨hempty, _⟩ | ⟨_, _, h⟩ | ⟨_, hs, hsq, _⟩
  · exact absurd hn hempty.not_ge
  · exact h
  · exact absurd hbad (not_or.mpr ⟨by simp [hs], hsq⟩)

theorem feedData_of_session (hn : 1 ≤ n) (hs : s.rxState = .dataTransfer) (hsq : (pay.getD 0 0).toNat ≠ 0) :
    feedData n pay s =
      done ((storeChunk (((pay.getD 0 0).toNat - 1) * 7) ((pay.drop 1).take (n - 1)) s).setRxLen
        (BitVec.ofNat 11 (min s.rxTotal.toNat (((pay.getD 0 0).toNat - 1) * 7 + (n - 1))))) := by
  rcases feedData_cases n pay s with ⟨hempty, _⟩ | ⟨_, hbad, _⟩ | ⟨_, _, _, h⟩
  · exact absurd hn hempty.not_ge
  · exact absurd hbad (not_or.mpr ⟨by simp [hs], hsq⟩)
  · exact h

end

/-- The chunk of a frame of length `n` has the payload's bytes after the first. -/
theorem chunk_getD (pay : List Byte) {n i : Nat} (hi : i < n - 1) :
    ((pay.drop 1).take (n - 1)).getD i 0 = pay.getD (i + 1) 0 := by
  rw [List.getD_eq_getElem?_getD, List.getElem?_take_of_lt hi, List.getElem?_drop, Nat.add_comm 1 i,
    List.getD_eq_getElem?_getD]

/-- What RXBUF reads after the chunk of a frame of length `n` is stored from `off` on. -/
theorem readByte_storeChunk_payload {pay : List Byte} {n : Nat} (hn : n ≤ pay.length) (off : Nat) (s : State)
    (a : Nat) : (storeChunk off ((pay.drop 1).take (n - 1)) s).readByte .rxBuf a =
      if off ≤ a ∧ a < off + (n - 1) ∧ a < s.rxTotal.toNat then some (pay.getD (a - off + 1) 0)
      else s.readByte .rxBuf a := by
  have hlen : ((pay.drop 1).take (n - 1)).length = n - 1 := by
    rw [List.length_take_of_le (by rw [List.length_drop]; omega)]
  rw [storeChunk_readByte, hlen]
  refine if_ctx_congr Iff.rfl (fun h => ?_) fun _ => rfl
  rw [chunk_getD pay (by omega)]

/-- Storing a chunk and assigning the length leaves all else as it is. -/
theorem storeChunk_setRxLen_answer (off : Nat) (bs : List Byte) (len : BitVec 11) (r : Response) (s : State) :
    ((storeChunk off bs s).setRxLen len).answer r =
      { s with rxBuf := (storeChunk off bs s).rxBuf, rxLen := len, response := some r } := by
  rw [storeChunk_frame]
  rfl

theorem payloadBytes_getD_eq_ofNat (pw0 pw1 : Word) (j : Nat) :
    (payloadBytes pw0 pw1).getD j 0 = BitVec.ofNat 8 (payByte pw0 pw1 j) := by
  rw [← payloadBytes_getD, BitVec.ofNat_toNat, BitVec.setWidth_eq]

/-- Settles O48: the three refusals of a DataTransfer frame, and the chunk that an accepted one stores. -/
theorem fedDataFrameStoresItsChunk : Obligations.FedDataFrameStoresItsChunk := by
  intro len id pw0 pw1 s hid n off
  have hfeed := exec_rxsFeed_data len pw0 pw1 s hid
  have hsq : ((payloadBytes pw0 pw1).getD 0 0).toNat = payByte pw0 pw1 0 := payloadBytes_getD pw0 pw1 0
  refine ⟨fun hn => ?_, fun hn hs => ?_, fun hn _ h0 => ?_, fun hn hs h0 => ?_⟩
  · exact hfeed.trans (feedData_of_empty hn)
  · exact hfeed.trans (feedData_of_violation hn (.inl hs))
  · exact hfeed.trans (feedData_of_violation hn (.inr (hsq.trans h0)))
  · have hstore := feedData_of_session (pay := payloadBytes pw0 pw1) hn hs (hsq.trans_ne h0)
    rw [hsq] at hstore
    refine ⟨_, hfeed.trans hstore, storeChunk_setRxLen_answer off _ _ ⟨0, 0, 0, 0⟩ s, fun a => ?_⟩
    rw [State.readByte_answer, State.readByte_setRxLen, readByte_storeChunk_payload (frameLen_le len),
      payloadBytes_getD_eq_ofNat]

/-! ### Queries of a session -/

section
variable (w : Word) {s : State}

theorem rxQuery_of_idle (hs : s.rxState = .idle) : rxQuery w s = raise .noSession s := if_pos hs

theorem rxQuery_of_session (hs : s.rxState = .dataTransfer) : rxQuery w s = give w s := by
  simpa [hs] using rxQuery_cases w s

end

/-- Settles O50: each operation is the shared query of its register. -/
theorem receiverQueriesReturnTheirRegister : Obligations.ReceiverQueriesReturnTheirRegister := by
  refine ⟨encodedAs_of_decodeOp 0x61 fun _ _ _ _ _ => rfl, encodedAs_of_decodeOp 0x62 fun _ _ _ _ _ => rfl,
    encodedAs_of_decodeOp 0x63 fun _ _ _ _ _ => rfl, encodedAs_of_decodeOp 0x64 fun _ _ _ _ _ => rfl, fun s =>
    ⟨fun hs => ?_, fun hs => ?_⟩⟩
  · exact ⟨rxQuery_of_idle _ hs, rxQuery_of_idle _ hs, rxQuery_of_idle _ hs, rxQuery_of_idle _ hs⟩
  · exact ⟨answers_of_give_field (rxQuery_of_session _ hs) rfl, answers_of_give_field (rxQuery_of_session _ hs) rfl,
      answers_of_give_field (rxQuery_of_session _ hs) rfl, answers_of_give_field (rxQuery_of_session _ hs) rfl⟩

/-- Settles O51, by the three ends of RXB.RD; every byte of RXBUF has a stated value. -/
theorem rxbRdReadsBelowTheLength : Obligations.RxbRdReadsBelowTheLength := by
  refine ⟨encodedAs_of_decodeOp 0x65 fun _ _ _ _ _ => rfl, fun a s => ?_⟩
  rcases execRxbRd_cases a s with ⟨hs, h⟩ | ⟨hs, ha, h⟩ | ⟨hs, ha, h⟩
  · exact ⟨fun _ => h, by simp [hs], by simp [hs]⟩
  · exact ⟨by simp [hs], fun _ _ => h, fun _ hlt => absurd ha hlt.not_ge⟩
  · exact ⟨by simp [hs], fun _ hle => absurd ha hle.not_gt, fun _ _ =>
      ⟨_, s.readByte_rxBuf_byteAt a.toNat, answers_of_give_field h rfl⟩⟩

end Sys2Proof
end

section
/-! SUPPORT. Errors (60_exceptions.md): the three ways in which an operation can end, and that no operation reads the
latest response. -/

namespace Sys2Proof

open Sys2Proof.Machine

/-! ### How an operation can end -/

/-- The low byte of a status word is the status number (R76). -/
theorem statusWord_status (st : Status) (n : BitVec 4) : (statusWord st n).toNat % 2 ^ 8 = st.code.toNat := by
  have h := st.code.isLt
  rw [statusWord_toNat]
  omega

/-- An operation started in `s` that comes out as `res` raises a status, answers OK from some state, or stops with a
fault; it is never refused. -/
inductive Ends (s : State) (res : Result) : Prop where
  | raises {st : Status} (h : res = raise st s)
  | answersOk {t : State} {r : Response} (hr : r.s.toNat % 2 ^ 8 = 0) (h : res = .next (t.answer r))
  | faults {f : Fault} (h : res = .fault f)

section
variable {s : State} {res : Result}

theorem Ends.finishes {t : State} {r0 r1 r2 : Word} (h : res = finish r0 r1 r2 t) : Ends s res :=
  .answersOk (statusWord_status .ok 0) h

theorem Ends.givesFrame {t : State} {id : Ident} {pay : List Byte} (h : res = giveFrame id pay t) : Ends s res :=
  .answersOk (statusWord_status .ok 8) h

end

section
variable (s : State)

theorem slotDec_ends (t : RawType) (r : Nat) (d : SlotDesc) : Ends s (slotDec t r d s) := by
  rcases slotDec_cases t r d s with ⟨_, h⟩ | ⟨_, _, h⟩ | ⟨_, _, h⟩
  exacts [.raises h, .finishes h, .finishes h]

theorem slotEnc_ends (t : RawType) (value : Option Word) (d : SlotDesc) : Ends s (slotEnc t value d s) := by
  rcases slotEnc_cases t value d s with ⟨_, h⟩ | ⟨_, _, h⟩ | ⟨_, _, _, _, h⟩ | ⟨_, _, _, _, h⟩
  exacts [.raises h, .finishes h, .raises h, .finishes h]

theorem fldGet_ends (w : Nat) (len : BitVec 4) (k pw0 pw1 : Word) : Ends s (fldGet w len k pw0 pw1 s) := by
  rcases fldGet_cases w len k pw0 pw1 s with ⟨_, h⟩ | ⟨_, h⟩
  exacts [.raises h, .finishes h]

theorem fldPut_ends (w : Nat) (len : BitVec 4) (k pw0 pw1 raw : Word) : Ends s (fldPut w len k pw0 pw1 raw s) := by
  rcases fldPut_cases w len k pw0 pw1 raw s with ⟨_, h⟩ | ⟨_, h⟩
  exacts [.raises h, .finishes h]

theorem execTxbWr_ends (a : Word) (v : Byte) : Ends s (execTxbWr a v s) := by
  by_cases hs : s.txState = .idle
  · have h := exec_txbWr_of_idle (a := a) v hs
    by_cases ha : 1785 ≤ a.toNat
    · exact .raises (h.trans (if_pos ha))
    · exact .finishes (h.trans (if_neg ha))
  · exact .raises (if_pos hs)

theorem execTxsOpen_ends (sa : Byte) (pgn : Pgn) (len : Word) : Ends s (execTxsOpen sa pgn len s) := by
  by_cases h : Config.tpMax < len.toNat
  · exact .raises (if_pos h)
  · exact .finishes (if_neg h)

theorem execTxsCount_ends : Ends s (execTxsCount s) := by
  by_cases h : s.txState = .idle
  · exact .raises (if_pos h)
  · exact .finishes (if_neg h)

/-- A DataTransfer frame is emitted, unless its chunk lies beyond the storage. -/
theorem sendData_ends : Ends s (sendData s) := by
  unfold sendData
  extract_lets off k
  split
  · exact .faults rfl
  · exact .givesFrame rfl

theorem execTxsNext_ends : Ends s (execTxsNext s) := by
  rcases execTxsNext_cases s with ⟨_, h⟩ | ⟨_, h⟩ | ⟨_, _, h⟩ | ⟨_, _, h⟩
  · exact .raises h
  · exact .givesFrame h
  · exact h ▸ sendData_ends s
  · exact .raises h

theorem feedConnection_ends (n : Nat) (id : Ident) (pay : List Byte) : Ends s (feedConnection n id pay s) := by
  rcases feedConnection_cases n id pay s with ⟨_, h⟩ | ⟨_, _, h⟩ | ⟨_, _, _, h⟩
  exacts [.raises h, .raises h, .finishes h]

theorem feedData_ends (n : Nat) (pay : List Byte) : Ends s (feedData n pay s) := by
  rcases feedData_cases n pay s with ⟨_, h⟩ | ⟨_, _, h⟩ | ⟨_, _, _, h⟩
  exacts [.raises h, .raises h, .finishes h]

theorem feedFrame_ends (n : Nat) (id : Ident) (pay : List Byte) : Ends s (feedFrame n id pay s) := by
  by_cases hcm : id.toNat / 2 ^ 16 % 2 ^ 10 = 0xEC
  · exact feedFrame_tpCm hcm n pay s ▸ feedConnection_ends s n id pay
  · by_cases hdt : id.toNat / 2 ^ 16 % 2 ^ 10 = 0xEB
    · exact feedFrame_tpDt hdt n pay s ▸ feedData_ends s n pay
    · exact .raises (feedFrame_other hcm hdt n pay s)

theorem rxQuery_ends (w : Word) : Ends s (rxQuery w s) := by
  rcases rxQuery_cases w s with ⟨_, h⟩ | ⟨_, h⟩
  exacts [.raises h, .finishes h]

theorem execRxbRd_ends (a : Word) : Ends s (execRxbRd a s) := by
  rcases execRxbRd_cases a s with ⟨_, h⟩ | ⟨_, _, h⟩ | ⟨_, _, h⟩
  exacts [.raises h, .raises h, .finishes h]

/-- Every operation ends in one of the three ways; those of the last arm always answer OK. -/
theorem exec_ends (i : Instr) : Ends s (exec i s) := by
  cases i with
  | slotDecU8 | slotDecU16 | slotDecU32 | slotDecI8 | slotDecI16 | slotDecI32 => exact slotDec_ends s ..
  | slotEncU8 | slotEncU16 | slotEncU32 | slotEncI8 | slotEncI16 | slotEncI32 => exact slotEnc_ends s ..
  | fldGetW1 | fldGetW2 | fldGetW4 => exact fldGet_ends s ..
  | fldPutW1 | fldPutW2 | fldPutW4 => exact fldPut_ends s ..
  | txbWr a v => exact execTxbWr_ends s a v
  | txsOpen sa pgn len => exact execTxsOpen_ends s sa pgn len
  | txsCount => exact execTxsCount_ends s
  | txsNext => exact execTxsNext_ends s
  | rxsFeed | tpCmBam | tpDt => exact feedFrame_ends s ..
  | rxsLen | rxsTotal | rxsPgn | rxsSa => exact rxQuery_ends s _
  | rxbRd a => exact execRxbRd_ends s a
  | _ => exact .finishes rfl

end

/-! ### An error leaves no trace -/

/-- An operation whose response has a status other than OK has raised that status. -/
theorem eq_raise_of_exec_error {i : Instr} {s t : State} {r : Response} (hi : exec i s = .next t)
    (hr : t.response = some r) (herr : r.s.toNat % 2 ^ 8 ≠ 0) :
    ∃ st, r = errorResponse st ∧ t = s.answer (errorResponse st) := by
  rcases exec_ends s i with h | ⟨hok, h⟩ | h <;> rw [hi] at h
  case raises st =>
    obtain rfl : t = s.answer (errorResponse st) := Host.Outcome.next.inj h
    exact ⟨st, (Option.some.inj hr).symm, rfl⟩
  case answersOk u q =>
    obtain rfl : t = u.answer q := Host.Outcome.next.inj h
    obtain rfl : q = r := Option.some.inj hr
    exact absurd hok herr
  case faults => nomatch h

theorem errorResponse_s_toNat (st : Status) : (errorResponse st).s.toNat = st.code.toNat :=
  (statusWord_toNat st 0).trans (by simp)

/-- Settles O54: such an operation has raised its status, which changes the response alone. -/
theorem errorsLeaveNoTrace : Obligations.ErrorsLeaveNoTrace := by
  intro i s t r hi hr herr
  obtain ⟨st, rfl, rfl⟩ := eq_raise_of_exec_error hi hr herr
  exact ⟨rfl, errorResponse_s_toNat st ▸ st.code.isLt, rfl, rfl, rfl⟩

/-! ### No operation reads the latest response -/

section
variable (r : Response) (s : State)

theorem storeChunk_answer (off : Nat) (bs : List Byte) :
    storeChunk off bs (s.answer r) = (storeChunk off bs s).answer r := by
  induction bs generalizing off s with
  | nil => rfl
  | cons b bs ih =>
    rw [storeChunk, storeChunk, State.answer_rxTotal]
    split
    · exact ih (s.writeRx off b) (off + 1)
    · exact ih s (off + 1)

theorem feedData_answer (n : Nat) (pay : List Byte) : feedData n pay (s.answer r) = feedData n pay s := by
  simp only [feedData, storeChunk_answer]
  rfl

theorem feedFrame_answer (n : Nat) (id : Ident) (pay : List Byte) :
    feedFrame n id pay (s.answer r) = feedFrame n id pay s := by
  rw [feedFrame, feedData_answer]
  rfl

/-- Every meaning replaces the response without reading it. Where a frame is fed, the stored chunk carries it along
until then. -/
theorem exec_answer (j : Instr) : exec j (s.answer r) = exec j s := by
  cases j with
  | rxsFeed | tpCmBam | tpDt => exact feedFrame_answer r s ..
  | _ => rfl

end

/-- Settles O55: the failed operation left its response alone, which the next one does not read. -/
theorem failedOperationIsForgotten : Obligations.FailedOperationIsForgotten := by
  intro i j s t r hi hr herr
  obtain ⟨st, _, rfl⟩ := eq_raise_of_exec_error hi hr herr
  exact exec_answer _ s j

end Sys2Proof
end

section
/-! SUPPORT. BLK.RESET (70_reset_and_hazards.md): the state it ends in, and what TXBUF reads as there. -/

namespace Sys2Proof

open Sys2Proof.Machine

/-- BLK.RESET answers OK from every state, with the register writes of R251 done. -/
theorem exec_blkReset (s : State) : exec .blkReset s = .next (s.softReset.answer ⟨0, 0, 0, 0⟩) := done_eq s.softReset

/-- Settles O3: the answered state is the softly reset one, whose fields are R251's, and which lists no byte of TXBUF. -/
theorem blkResetReinitialises : Obligations.BlkResetReinitialises := by
  refine ⟨encodedAs_of_decodeOp 0x01 fun _ _ _ _ _ => rfl, fun s => ⟨_, exec_blkReset s, ?fields, fun a => ?txBuf⟩⟩
  case fields => rfl
  case txBuf => exact (State.readByte_answer ..).trans (State.readByte_softReset s a)

end Sys2Proof
end

section
/-! SUPPORT. What an operation and a step can do, said once: the register group that an operation writes, and what it
answers. From it: the invariant, the bounds of R24, totality, and the write sets of R25. -/

namespace Sys2Proof

open Sys2Proof.Machine

/-! ### What an operation can do -/

/-- `Effect i s u`: the operation `i` can leave the state `s` as `u`, but for the response. -/
inductive Effect (i : Instr) (s : State) : State → Prop where
  | nothing : Effect i s s
  | softReset (hi : i.unit = .whole) : Effect i s s.softReset
  | setBuilder (hi : i.unit = .builder) (pgn : Pgn) (pri : BitVec 3) (sa da : Byte) :
      Effect i s (s.setBuilder pgn pri sa da)
  | writeTx (hi : i.unit = .sender) {a : Nat} (ha : a < 1785) (v : Byte) : Effect i s (s.writeTx a v)
  | openTx {sa : Byte} {pgn : Pgn} {len : Word} (hi : i = .txsOpen sa pgn len) (hlen : len.toNat ≤ 1785) :
      Effect i s (s.openTx sa pgn (len.setWidth 11))
  | startTx (hi : i.unit = .sender) (hs : s.txState = .connectionManagement) : Effect i s s.startTx
  | advanceTx (hi : i.unit = .sender) (hs : s.txState = .dataTransfer) (hidx : s.txIdx.toNat < packetCount s.txTotal) :
      Effect i s s.advanceTx
  | closeTx (hi : i.unit = .sender) : Effect i s s.closeTx
  | openRx (hi : i.unit = .receiver) (sa : Byte) (pgn : Pgn) {total : Nat} (ht : total ≤ 1785) :
      Effect i s (s.openRx sa pgn (BitVec.ofNat 11 total))
  | storeRx (hi : i.unit = .receiver) (hs : s.rxState = .dataTransfer) (off : Nat) (bs : List Byte) (n : Nat) :
      Effect i s { s with rxBuf := (storeChunk off bs s).rxBuf, rxLen := BitVec.ofNat 11 (min s.rxTotal.toNat n) }
  | closeRx (hi : i.unit = .receiver) : Effect i s s.closeRx

/-- An operation `i` started in `s` that comes out as `res` answers with one of the eleven statuses after an effect of its
own, or stops with a fault in a session that is longer than a legal one. -/
inductive Runs (i : Instr) (s : State) (res : Result) : Prop where
  | answers {u : State} {r : Response} (hu : Effect i s u) (hr : r.s.toNat % 2 ^ 8 ≤ 0x0A) (h : res = .next (u.answer r))
  | faults {f : Fault} (hs : s.txState ≠ .idle) (ht : 1785 < s.txTotal.toNat) (h : res = .fault f)

section
variable {i : Instr} {s u : State} {res : Result}

theorem Runs.raises {st : Status} (h : res = raise st s) : Runs i s res := by
  refine .answers .nothing ?_ h
  have hcode := code_toNat_le st
  rw [errorResponse_s_toNat]
  omega

theorem Runs.finishes {r0 r1 r2 : Word} (hu : Effect i s u) (h : res = finish r0 r1 r2 u) : Runs i s res :=
  .answers hu ((statusWord_status .ok 0).trans_le (Nat.zero_le _)) h

theorem Runs.givesFrame {id : Ident} {pay : List Byte} (hu : Effect i s u) (h : res = giveFrame id pay u) : Runs i s res :=
  .answers hu ((statusWord_status .ok 8).trans_le (Nat.zero_le _)) h

end

section
variable (i : Instr) (s : State)

theorem slotDec_runs (t : RawType) (r : Nat) (d : SlotDesc) : Runs i s (slotDec t r d s) := by
  rcases slotDec_cases t r d s with ⟨_, h⟩ | ⟨_, _, h⟩ | ⟨_, _, h⟩
  exacts [.raises h, .finishes .nothing h, .finishes .nothing h]

theorem slotEnc_runs (t : RawType) (value : Option Word) (d : SlotDesc) : Runs i s (slotEnc t value d s) := by
  rcases slotEnc_cases t value d s with ⟨_, h⟩ | ⟨_, _, h⟩ | ⟨_, _, _, _, h⟩ | ⟨_, _, _, _, h⟩
  exacts [.raises h, .finishes .nothing h, .raises h, .finishes .nothing h]

theorem fldGet_runs (w : Nat) (len : BitVec 4) (k pw0 pw1 : Word) : Runs i s (fldGet w len k pw0 pw1 s) := by
  rcases fldGet_cases w len k pw0 pw1 s with ⟨_, h⟩ | ⟨_, h⟩
  exacts [.raises h, .finishes .nothing h]

theorem fldPut_runs (w : Nat) (len : BitVec 4) (k pw0 pw1 raw : Word) : Runs i s (fldPut w len k pw0 pw1 raw s) := by
  rcases fldPut_cases w len k pw0 pw1 raw s with ⟨_, h⟩ | ⟨_, h⟩
  exacts [.raises h, .finishes .nothing h]

theorem execTxbWr_runs (hi : i.unit = .sender) (a : Word) (v : Byte) : Runs i s (execTxbWr a v s) := by
  by_cases hs : s.txState = .idle
  · have h := exec_txbWr_of_idle (a := a) v hs
    by_cases ha : 1785 ≤ a.toNat
    · exact .raises (h.trans (if_pos ha))
    · exact .finishes (.writeTx hi (not_le.mp ha) v) (h.trans (if_neg ha))
  · exact .raises (if_pos hs)

theorem execTxsOpen_runs (sa : Byte) (pgn : Pgn) (len : Word) : Runs (.txsOpen sa pgn len) s (execTxsOpen sa pgn len s) := by
  by_cases h : 1785 < len.toNat
  · exact .raises (if_pos h)
  · exact .finishes (.openTx rfl (not_lt.mp h)) (if_neg h)

theorem execTxsCount_runs : Runs i s (execTxsCount s) := by
  by_cases h : s.txState = .idle
  · exact .raises (if_pos h)
  · exact .finishes .nothing (if_neg h)

/-- Only a total above 1785 puts the next chunk beyond the storage. -/
theorem sendData_runs (hi : i.unit = .sender) (hs : s.txState = .dataTransfer)
    (hidx : s.txIdx.toNat < packetCount s.txTotal) : Runs i s (sendData s) := by
  by_cases ht : s.txTotal.toNat ≤ 1785
  · exact .givesFrame (.advanceTx hi hs hidx) (sendData_eq ht hidx)
  · unfold sendData
    extract_lets off k
    split
    · exact .faults (by simp [hs]) (not_le.mp ht) rfl
    · exact .givesFrame (.advanceTx hi hs hidx) rfl

theorem execTxsNext_runs (hi : i.unit = .sender) : Runs i s (execTxsNext s) := by
  rcases execTxsNext_cases s with ⟨_, h⟩ | ⟨hs, h⟩ | ⟨hs, hidx, h⟩ | ⟨_, _, h⟩
  · exact .raises h
  · exact .givesFrame (.startTx hi hs) h
  · exact h ▸ sendData_runs i s hi hs hidx
  · exact .raises h

theorem feedConnection_runs (hi : i.unit = .receiver) (n : Nat) (id : Ident) (pay : List Byte) :
    Runs i s (feedConnection n id pay s) := by
  rcases feedConnection_cases n id pay s with ⟨_, h⟩ | ⟨_, _, h⟩ | ⟨_, _, ht, h⟩
  exacts [.raises h, .raises h, .finishes (.openRx hi _ _ ht) h]

/-- Storing a chunk and assigning the length writes RXBUF and RX.len. -/
theorem storeChunk_setRxLen (off : Nat) (bs : List Byte) (len : BitVec 11) :
    (storeChunk off bs s).setRxLen len = { s with rxBuf := (storeChunk off bs s).rxBuf, rxLen := len } := by
  rw [storeChunk_frame]
  rfl

theorem feedData_runs (hi : i.unit = .receiver) (n : Nat) (pay : List Byte) : Runs i s (feedData n pay s) := by
  rcases feedData_cases n pay s with ⟨_, h⟩ | ⟨_, _, h⟩ | ⟨_, hs, _, h⟩
  · exact .raises h
  · exact .raises h
  · exact .finishes (.storeRx hi hs _ _ _) (storeChunk_setRxLen s .. ▸ h)

theorem feedFrame_runs (hi : i.unit = .receiver) (n : Nat) (id : Ident) (pay : List Byte) :
    Runs i s (feedFrame n id pay s) := by
  by_cases hcm : id.toNat / 2 ^ 16 % 2 ^ 10 = 0xEC
  · exact feedFrame_tpCm hcm n pay s ▸ feedConnection_runs i s hi n id pay
  · by_cases hdt : id.toNat / 2 ^ 16 % 2 ^ 10 = 0xEB
    · exact feedFrame_tpDt hdt n pay s ▸ feedData_runs i s hi n pay
    · exact .raises (feedFrame_other hcm hdt n pay s)

theorem rxQuery_runs (w : Word) : Runs i s (rxQuery w s) := by
  rcases rxQuery_cases w s with ⟨_, h⟩ | ⟨_, h⟩
  exacts [.raises h, .finishes .nothing h]

theorem execRxbRd_runs (a : Word) : Runs i s (execRxbRd a s) := by
  rcases execRxbRd_cases a s with ⟨_, h⟩ | ⟨_, _, h⟩ | ⟨_, _, h⟩
  exacts [.raises h, .raises h, .finishes .nothing h]

/-- Every operation runs so; those of the last arm answer in every state and write nothing. -/
theorem exec_runs : Runs i s (exec i s) := by
  cases i with
  | blkReset => exact .finishes (.softReset rfl) rfl
  | bldPgn pgn => exact .finishes (.setBuilder rfl pgn Config.prioDefault 0 0) rfl
  | bldPrio p => exact .finishes (.setBuilder rfl s.bldPgn (clampPrio p) s.bldSa s.bldDa) rfl
  | bldSa sa => exact .finishes (.setBuilder rfl s.bldPgn s.bldPri sa s.bldDa) rfl
  | bldDa da => exact .finishes (.setBuilder rfl s.bldPgn s.bldPri s.bldSa da) rfl
  | slotDecU8 | slotDecU16 | slotDecU32 | slotDecI8 | slotDecI16 | slotDecI32 => exact slotDec_runs _ s ..
  | slotEncU8 | slotEncU16 | slotEncU32 | slotEncI8 | slotEncI16 | slotEncI32 => exact slotEnc_runs _ s ..
  | fldGetW1 | fldGetW2 | fldGetW4 => exact fldGet_runs _ s ..
  | fldPutW1 | fldPutW2 | fldPutW4 => exact fldPut_runs _ s ..
  | txbWr a v => exact execTxbWr_runs _ s rfl a v
  | txsOpen sa pgn len => exact execTxsOpen_runs s sa pgn len
  | txsCount => exact execTxsCount_runs _ s
  | txsNext => exact execTxsNext_runs _ s rfl
  | txsClose => exact .finishes (.closeTx rfl) rfl
  | rxsFeed | tpCmBam | tpDt => exact feedFrame_runs _ s rfl ..
  | rxsLen | rxsTotal | rxsPgn | rxsSa => exact rxQuery_runs _ s _
  | rxbRd a => exact execRxbRd_runs _ s a
  | rxsClose => exact .finishes (.closeRx rfl) rfl
  | _ => exact .finishes .nothing rfl

end

/-- The next state of an operation is an effect of it, answered. -/
theorem effect_of_exec {i : Instr} {s t : State} (h : exec i s = .next t) :
    ∃ u r, Effect i s u ∧ t = u.answer r := by
  rcases exec_runs i s with ⟨hu, _, hr⟩ | ⟨_, _, hf⟩
  · exact ⟨_, _, hu, Host.Outcome.next.inj (h.symm.trans hr)⟩
  · exact nomatch h.symm.trans hf

/-! ### What a step can do -/

theorem step_of_nothing_sent {s : State} (hs : s.inputs = []) : step s = .next s := by
  simp only [step, hs, takeNothing]

theorem step_of_hardReset {s : State} {rest : List Input} (hs : s.inputs = .hardReset :: rest) :
    step s = .next s.dropInput.hardReset := by
  simp only [step, hs, takeHardReset]

/-- A step that gives the next state `t` has nothing to do, resets, runs an operation, or answers an illegal block. -/
inductive Steps (s t : State) : Prop where
  | nothing (hs : s.inputs = []) (h : t = s)
  | hardReset {rest : List Input} (hs : s.inputs = .hardReset :: rest) (h : t = s.dropInput.hardReset)
  | runs {c : Command} {rest : List Input} {i : Instr} (hs : s.inputs = .command c :: rest) (hd : decode c = .ok i)
      {u : State} {r : Response} (hu : Effect i { s with inputs := rest } u) (h : t = u.answer r)
  | illegal {c : Command} {rest : List Input} {why : Reject} (hs : s.inputs = .command c :: rest)
      (hd : decode c = .illegal why) (h : t = { s with inputs := rest, response := some ⟨3, 0, 0, 0⟩ })

theorem steps_of_step {s t : State} (h : step s = .next t) : Steps s t := by
  match hs : s.inputs with
  | [] => exact .nothing hs (Host.Outcome.next.inj (h.symm.trans (step_of_nothing_sent hs)))
  | .hardReset :: rest => exact .hardReset hs (Host.Outcome.next.inj (h.symm.trans (step_of_hardReset hs)))
  | .command c :: rest =>
    cases hd : decode c with
    | ok i =>
      obtain ⟨u, r, hu, ht⟩ := effect_of_exec ((step_of_decode_ok hs hd).symm.trans h)
      exact .runs hs hd hu ht
    | illegal why => exact .illegal hs hd (Host.Outcome.next.inj (h.symm.trans (step_of_decode_illegal hs hd)))

/-! ### The invariant -/

theorem toNat_setWidth_le {w n : Nat} (x : BitVec w) : (x.setWidth n).toNat ≤ x.toNat := by
  rw [BitVec.toNat_setWidth]
  exact Nat.mod_le _ _

theorem toNat_ofNat_le (n x : Nat) : (BitVec.ofNat n x).toNat ≤ x := by
  rw [BitVec.toNat_ofNat]
  exact Nat.mod_le _ _

theorem toNat_succ_le {n : Nat} (x : BitVec n) : (x + 1).toNat ≤ x.toNat + 1 := by
  rw [BitVec.toNat_add]
  exact (Nat.mod_le _ _).trans (Nat.add_le_add_left (toNat_ofNat_le n 1) _)

theorem Effect.inv {i : Instr} {s u : State} (hu : Effect i s u) (hs : s.inv) : u.inv := by
  obtain ⟨htx, hrx, htotal, hidx, hlen⟩ := id hs
  cases hu with
  | nothing | setBuilder => exact hs
  | softReset => exact ⟨Memory.wf_nil _, hrx, fun h => absurd rfl h, nofun, nofun⟩
  | writeTx _ ha v => exact ⟨Memory.wf_write htx ha v, hrx, htotal, hidx, hlen⟩
  | openTx _ hle => exact ⟨htx, hrx, fun _ => (toNat_setWidth_le _).trans hle, nofun, hlen⟩
  | startTx _ hcm => exact ⟨htx, hrx, fun _ => htotal (by simp [hcm]), fun _ => Nat.zero_le _, hlen⟩
  | advanceTx _ hdt hlt =>
    exact ⟨htx, hrx, fun _ => htotal (by simp [hdt]), fun _ => (toNat_succ_le _).trans hlt, hlen⟩
  | closeTx => exact ⟨htx, hrx, fun h => absurd rfl h, nofun, hlen⟩
  | openRx _ _ _ ht =>
    exact ⟨htx, Memory.wf_nil _, htotal, hidx, fun _ => ⟨Nat.zero_le _, (toNat_ofNat_le _ _).trans ht⟩⟩
  | storeRx _ hdt off bs n =>
    obtain ⟨_, hle⟩ := hlen hdt
    exact ⟨htx, storeChunk_wf off bs hle hrx, htotal, hidx,
      fun _ => ⟨(toNat_ofNat_le _ _).trans (Nat.min_le_left _ _), hle⟩⟩
  | closeRx => exact ⟨htx, hrx, htotal, hidx, nofun⟩

theorem hardReset_inv (s : State) : s.hardReset.inv :=
  ⟨Memory.wf_nil _, Memory.wf_nil _, fun h => absurd rfl h, nofun, nofun⟩

/-- Settles O5: each effect of an operation keeps the invariant, and a reset establishes it. -/
theorem stepKeepsTheInvariant : Obligations.StepKeepsTheInvariant := by
  intro s t hs h
  rcases steps_of_step h with ⟨_, rfl⟩ | ⟨_, rfl⟩ | ⟨_, _, hu, rfl⟩ | ⟨_, _, rfl⟩
  case nothing => exact hs
  case hardReset => exact hardReset_inv _
  case runs => exact hu.inv hs
  case illegal => exact hs

/-! ### The bounds of R24 word for word -/

theorem packetCount_le_of_le {total : BitVec 11} (h : total.toNat ≤ 1785) : packetCount total ≤ 255 := by
  simp only [packetCount, Config.tpChunk]
  omega

theorem toNat_le_seven (pri : BitVec 3) : pri.toNat ≤ 7 := Nat.le_of_lt_succ pri.isLt

/-- Every effect but an opened session keeps them without more ado; a session is opened with a count that TX.idx, which
stays, must not exceed (log entry 14). -/
theorem Effect.inv24 {i : Instr} {s u : State} (hu : Effect i s u) (hs : s.inv24)
    (hopen : ∀ sa pgn len, i = .txsOpen sa pgn len → len.toNat ≤ 1785 → s.txIdx.toNat ≤ (len.toNat + 6) / 7) :
    u.inv24 := by
  obtain ⟨hpri, htx, hrx⟩ := id hs
  cases hu with
  | nothing | writeTx => exact hs
  | setBuilder _ _ pri => exact ⟨toNat_le_seven pri, htx, hrx⟩
  | softReset => exact ⟨toNat_le_seven _, fun h => absurd rfl h, nofun⟩
  | @openTx sa pgn len hi hle =>
    have htotal : (len.setWidth 11).toNat = len.toNat := by
      rw [BitVec.toNat_setWidth, Nat.mod_eq_of_lt (by omega)]
    have hcount : packetCount (len.setWidth 11) = (len.toNat + 6) / 7 := by rw [packetCount, htotal]; rfl
    exact ⟨hpri, fun _ => ⟨htotal ▸ hle, hcount ▸ hopen sa pgn len hi hle, packetCount_le_of_le (htotal ▸ hle)⟩, hrx⟩
  | startTx _ hcm =>
    obtain ⟨htotal, _, hcount⟩ := htx (by simp [hcm])
    exact ⟨hpri, fun _ => ⟨htotal, Nat.zero_le _, hcount⟩, hrx⟩
  | advanceTx _ hdt hlt =>
    obtain ⟨htotal, _, hcount⟩ := htx (by simp [hdt])
    exact ⟨hpri, fun _ => ⟨htotal, (toNat_succ_le _).trans hlt, hcount⟩, hrx⟩
  | closeTx => exact ⟨hpri, fun h => absurd rfl h, hrx⟩
  | openRx _ _ _ ht => exact ⟨hpri, htx, fun _ => ⟨Nat.zero_le _, (toNat_ofNat_le _ _).trans ht⟩⟩
  | storeRx _ hdt =>
    obtain ⟨_, hle⟩ := hrx hdt
    exact ⟨hpri, htx, fun _ => ⟨(toNat_ofNat_le _ _).trans (Nat.min_le_left _ _), hle⟩⟩
  | closeRx => exact ⟨hpri, htx, nofun⟩

theorem hardReset_inv24 (s : State) : s.hardReset.inv24 :=
  ⟨toNat_le_seven _, fun h => absurd rfl h, nofun⟩

/-- Settles O7: each effect keeps the bounds, an opened session by the hypothesis on its count. -/
theorem statedBoundsAreKept : Obligations.StatedBoundsAreKept := by
  intro s t hs h hopen
  rcases steps_of_step h with ⟨_, rfl⟩ | ⟨_, rfl⟩ | ⟨hin, hd, hu, rfl⟩ | ⟨_, _, rfl⟩
  case nothing => exact hs
  case hardReset => exact hardReset_inv24 _
  case runs => exact hu.inv24 hs fun sa pgn len hi => hopen _ _ sa pgn len hin (hd.trans (congrArg Decoded.ok hi))
  case illegal => exact hs

end Sys2Proof
end

section
/-! SUPPORT. The statements about the whole machine: reset, steps, totality, the write sets and the read sets of R25, and the
addresses without storage (10_state.md sections 6, 9 and 10; 20_memory.md section 1; 60_exceptions.md section 5). -/

namespace Sys2Proof

open Sys2Proof.Machine

/-! ### Reset and steps -/

/-- Settles O1: each field of the reset state, and no byte listed. -/
theorem resetLeavesTheStatedValues : Obligations.ResetLeavesTheStatedValues :=
  ⟨rfl, rfl, rfl, rfl, rfl, rfl, rfl, rfl, rfl, rfl, fun _ => rfl⟩

/-- Settles O2: the step is the hardware reset of the state without that input. -/
theorem hardwareResetLeavesTheStatedValues : Obligations.HardwareResetLeavesTheStatedValues := by
  intro s rest hs
  exact ⟨_, step_of_hardReset hs, rfl, rfl, rfl, rfl, rfl, rfl, rfl, State.readByte_hardReset _,
    congrArg List.tail hs, rfl⟩

/-- Settles O4: both buffers are empty, both banks Idle. -/
theorem invariantHoldsAtReset : Obligations.InvariantHoldsAtReset :=
  ⟨⟨State.reset_wf .txBuf, State.reset_wf .rxBuf, fun h => absurd rfl h, nofun, nofun⟩,
    toNat_le_seven _, fun h => absurd rfl h, nofun⟩

/-- A session whose two frames are out, and the command that opens one of length 0 in its place. -/
def reopenedSession : State :=
  { State.reset with
    txState := .dataTransfer, txTotal := 9, txIdx := 2, inputs := [.command ⟨0x51000000, 0x80, 0xFECA, 0, 0, 0⟩] }

/-- Refutes O6: TXS.OPEN of length 0 over a session with two frames emitted leaves TX.idx at 2, above the count 0. -/
theorem not_indexBoundInConnectionManagementIsKept : ¬ Obligations.IndexBoundInConnectionManagementIsKept := by
  intro h
  have hstep : step reopenedSession = .next (({ reopenedSession with inputs := [] }.openTx 0x80 0xFECA 0).answer
      ⟨0, 0, 0, 0⟩) := rfl
  exact absurd (h _ _ (by decide) hstep) (by decide)

/-- Settles O14, by the branches of the step. -/
theorem stepRunsTheDecodedInstruction : Obligations.StepRunsTheDecodedInstruction :=
  ⟨fun _ _ _ _ hs hd => step_of_decode_ok hs hd, fun _ hs => step_of_nothing_sent hs⟩

/-- Settles O43: a byte reads as its stated value, or as the free one. -/
theorem unwrittenPayloadBytesAreFree : Obligations.UnwrittenPayloadBytesAreFree := by
  intro s a
  refine ⟨fun v hv => State.byteAt_of_readByte hv, fun hnone => ?_⟩
  rw [State.byteAt, hnone, Option.getD_none]

/-! ### Every command block is answered -/

section
variable {i : Instr} {s u : State} (hu : Effect i s u)
include hu

theorem Effect.inputs_eq : u.inputs = s.inputs := by cases hu <;> rfl

theorem Effect.params_eq : u.params = s.params := by cases hu <;> rfl

end

/-- In a state with the invariant an operation answers. -/
theorem exec_answers_of_inv (i : Instr) {s : State} (hs : s.inv) :
    ∃ t r, exec i s = .next t ∧ t.inputs = s.inputs ∧ t.response = some r ∧ r.s.toNat % 2 ^ 8 ≤ 0x0A := by
  obtain ⟨_, _, htotal, _, _⟩ := hs
  rcases exec_runs i s with ⟨hu, hr, h⟩ | ⟨htx, hlong, _⟩
  · exact ⟨_, _, h, hu.inputs_eq, rfl, hr⟩
  · exact absurd (htotal htx) hlong.not_ge

/-- Settles O56: an operation answers, an illegal block is answered, and the other steps do not stop. -/
theorem everyCommandBlockIsAnswered : Obligations.EveryCommandBlockIsAnswered := by
  intro s hs
  have hcommand : ∀ (c : Command) (rest : List Input), s.inputs = .command c :: rest →
      ∃ t r, step s = .next t ∧ t.inputs = rest ∧ t.response = some r ∧ r.s.toNat % 2 ^ 8 ≤ 0x0A := by
    intro c rest hin
    cases hd : decode c with
    | ok i => exact step_of_decode_ok hin hd ▸ exec_answers_of_inv i (s := { s with inputs := rest }) hs
    | illegal why => exact ⟨_, _, step_of_decode_illegal hin hd, rfl, rfl, by decide⟩
  refine ⟨?_, hcommand⟩
  match hin : s.inputs with
  | [] => exact ⟨_, step_of_nothing_sent hin⟩
  | .hardReset :: rest => exact ⟨_, step_of_hardReset hin⟩
  | .command c :: rest =>
    obtain ⟨t, _, h, _⟩ := hcommand c rest hin
    exact ⟨t, h⟩

/-! ### Write sets -/

/-- R25's write sets: an effect of an operation of a bank lies in that bank. -/
theorem Effect.frame {i : Instr} {s u : State} (hu : Effect i s u) :
    (i.unit = .builder → u = { s with bldPgn := u.bldPgn, bldPri := u.bldPri, bldSa := u.bldSa, bldDa := u.bldDa }) ∧
    (i.unit = .sender → u = { s with txState := u.txState, txSa := u.txSa, txPgn := u.txPgn, txTotal := u.txTotal,
                                     txIdx := u.txIdx, txBuf := u.txBuf }) ∧
    (i.unit = .receiver → u = { s with rxState := u.rxState, rxSa := u.rxSa, rxPgn := u.rxPgn, rxTotal := u.rxTotal,
                                       rxLen := u.rxLen, rxBuf := u.rxBuf }) := by
  cases hu with
  | nothing => exact ⟨fun _ => rfl, fun _ => rfl, fun _ => rfl⟩
  | softReset hi => rw [hi]; exact ⟨nofun, nofun, nofun⟩
  | setBuilder hi => rw [hi]; exact ⟨fun _ => rfl, nofun, nofun⟩
  | writeTx hi | startTx hi | advanceTx hi | closeTx hi => rw [hi]; exact ⟨nofun, fun _ => rfl, nofun⟩
  | openTx hi => rw [hi]; exact ⟨nofun, fun _ => rfl, nofun⟩
  | openRx hi | storeRx hi | closeRx hi => rw [hi]; exact ⟨nofun, nofun, fun _ => rfl⟩

/-- Settles O58: the effect of an operation lies in its bank, and neither an effect nor a reset writes the parameters. -/
theorem operationsWriteOnlyTheirBank : Obligations.OperationsWriteOnlyTheirBank := by
  refine ⟨fun i s t h => ?_, fun s t h => ?_⟩
  · obtain ⟨u, r, hu, rfl⟩ := effect_of_exec h
    obtain ⟨hbuilder, hsender, hreceiver⟩ := hu.frame
    exact ⟨fun hi => congrArg (State.answer r) (hbuilder hi), fun hi => congrArg (State.answer r) (hsender hi),
      fun hi => congrArg (State.answer r) (hreceiver hi)⟩
  · rcases steps_of_step h with ⟨_, rfl⟩ | ⟨_, rfl⟩ | ⟨_, _, hu, rfl⟩ | ⟨_, _, rfl⟩
    case runs => exact hu.params_eq
    all_goals rfl

/-! ### Operations without state -/

/-- The meaning gives one response, the same in every state, and changes nothing else. -/
def Stateless (f : State → Result) : Prop := ∃ r, ∀ s, f s = .next (s.answer r)

theorem slotDec_stateless (t : RawType) (r : Nat) (d : SlotDesc) : Stateless (slotDec t r d) := by
  by_cases hd : legalDescriptor d
  · by_cases hr : r = t.sentinel
    · exact ⟨_, fun _ => slotDec_of_sentinel hd hr⟩
    · exact ⟨_, fun _ => slotDec_of_ne_sentinel hd hr⟩
  · exact ⟨_, fun _ => slotDec_of_not_legal hd⟩

theorem slotEnc_stateless (t : RawType) (value : Option Word) (d : SlotDesc) : Stateless (slotEnc t value d) := by
  by_cases hd : legalDescriptor d
  · cases value with
    | none => exact ⟨_, fun _ => slotEnc_none hd⟩
    | some w =>
      by_cases hw : nanPattern w
      · exact ⟨_, fun _ => slotEnc_of_nan hd hw⟩
      · exact ⟨_, fun _ => slotEnc_of_not_nan hd hw⟩
  · exact ⟨_, fun _ => slotEnc_of_not_legal hd⟩

theorem fldGet_stateless (w : Nat) (len : BitVec 4) (k pw0 pw1 : Word) : Stateless (fldGet w len k pw0 pw1) := by
  by_cases h : frameLen len < k.toNat + w
  · exact ⟨_, fun _ => if_pos h⟩
  · exact ⟨_, fun _ => if_neg h⟩

theorem fldPut_stateless (w : Nat) (len : BitVec 4) (k pw0 pw1 raw : Word) : Stateless (fldPut w len k pw0 pw1 raw) := by
  by_cases h : frameLen len < k.toNat + w
  · exact ⟨_, fun _ => if_pos h⟩
  · exact ⟨_, fun _ => if_neg h⟩

/-- Settles O57: the slot and field operations by their ends, none of which asks about the state; each other one gives a word
of its operands. -/
theorem statelessOperationsReadAndWriteNothing : Obligations.StatelessOperationsReadAndWriteNothing := by
  intro i hi
  change Stateless (exec i)
  cases i with
  | slotDecU8 | slotDecU16 | slotDecU32 | slotDecI8 | slotDecI16 | slotDecI32 => exact slotDec_stateless ..
  | slotEncU8 | slotEncU16 | slotEncU32 | slotEncI8 | slotEncI16 | slotEncI32 => exact slotEnc_stateless ..
  | fldGetW1 | fldGetW2 | fldGetW4 => exact fldGet_stateless ..
  | fldPutW1 | fldPutW2 | fldPutW4 => exact fldPut_stateless ..
  | blkReset | bldPgn | bldPrio | bldSa | bldDa | bldBuild | txbWr | txsOpen | txsCount | txsNext | txsClose | rxsFeed
  | rxsLen | rxsTotal | rxsPgn | rxsSa | rxbRd | rxsClose | tpCmBam | tpDt => nomatch hi
  | _ => exact ⟨_, fun _ => rfl⟩

/-! ### Addresses without storage -/

theorem find_eq_none {m : List Host.Cell} {a : Nat} (h : ∀ c ∈ m, c.1 ≠ a) : Memory.find m a = none := by
  induction m with
  | nil => rfl
  | cons c m ih =>
    rw [Memory.find, if_neg (h c List.mem_cons_self).symm]
    exact ih fun c' hc' => h c' (List.mem_cons_of_mem c hc')

/-- A canonical buffer lists no address above 1784. -/
theorem address_le_of_wf {d : Option Byte} {m : List Host.Cell} (h : Memory.wf d m) : ∀ c ∈ m, c.1 ≤ 1784 :=
  fun c hc => Nat.le_of_lt_succ (h.2 c hc).1

/-- Above address 1784 a canonical buffer reads as an unlisted address does. -/
theorem readByte_of_wf {s : State} {sp : Space} (h : Memory.wf (s.unlisted sp) (s.cells sp)) {a : Nat} (ha : 1784 < a) :
    s.readByte sp a = s.unlisted sp := by
  rw [State.readByte_eq, find_eq_none fun c hc => ((address_le_of_wf h c hc).trans_lt ha).ne, Option.none_or]

/-- Settles O60: the refusals are those of O38 and O51, and the invariant has both buffers canonical. -/
theorem addressesAbove1784HaveNoStorage : Obligations.AddressesAbove1784HaveNoStorage := by
  refine ⟨fun a v s ha => ?_, fun s hs => ?_⟩
  · obtain ⟨hbusy, hbad, _⟩ := txbWrWritesOneByteWhileIdle.2 a v s
    obtain ⟨hidle, hbeyond, _⟩ := rxbRdReadsBelowTheLength.2 a s
    exact ⟨fun h => hbad h ha, hbusy, fun h => hbeyond h ((Nat.min_le_right _ _).trans ha), hidle⟩
  · obtain ⟨htx, hrx, _⟩ := hs
    exact ⟨address_le_of_wf htx, address_le_of_wf hrx, fun a ha =>
      ⟨readByte_of_wf (sp := .txBuf) htx ha, readByte_of_wf (sp := .rxBuf) hrx ha⟩⟩

/-! ### Read sets -/

section
variable {bank : State → State → Prop} {p : Prop} [Decidable p] {a a' b b' : Result}

/-- Two outcomes that branch on one condition agree where their branches do. -/
theorem outcomesAgree_ite (hpos : p → outcomesAgree bank a a') (hneg : ¬ p → outcomesAgree bank b b') :
    outcomesAgree bank (if p then a else b) (if p then a' else b') := by
  by_cases h : p
  · rw [if_pos h, if_pos h]; exact hpos h
  · rw [if_neg h, if_neg h]; exact hneg h

end

section
variable {s u : State}

/-- The builder operations read and write the builder bank alone. -/
theorem builder_agree {i : Instr} (hi : i.unit = .builder) (h : sameBuilder s u) :
    outcomesAgree sameBuilder (exec i s) (exec i u) := by
  obtain ⟨hpgn, hpri, hsa, hda⟩ := h
  cases i with
  | bldPgn pgn => exact ⟨rfl, rfl, rfl, rfl, rfl⟩
  | bldPrio p => exact ⟨rfl, hpgn, rfl, hsa, hda⟩
  | bldSa sa => exact ⟨rfl, hpgn, hpri, rfl, hda⟩
  | bldDa da => exact ⟨rfl, hpgn, hpri, hsa, rfl⟩
  | bldBuild =>
    have hid : idBuild s.bldPri s.bldPgn s.bldSa s.bldDa = idBuild u.bldPri u.bldPgn u.bldSa u.bldDa := by
      rw [hpgn, hpri, hsa, hda]
    exact ⟨congrArg (fun id : Ident => some (okResponse (id.setWidth 32) 0 0)) hid, hpgn, hpri, hsa, hda⟩
  | _ => nomatch hi

/-! The sender reads its bank, TXBUF with its free values, and the parameters. -/

theorem txChunk_congr (hepoch : s.txEpoch = u.txEpoch) (hbuf : s.txBuf = u.txBuf) (off k : Nat) :
    txChunk off k s = txChunk off k u := by
  have hread (a : Nat) : s.readByte .txBuf a = u.readByte .txBuf a := by
    rw [State.readByte_eq, State.readByte_eq, State.cells_txBuf, State.cells_txBuf, hbuf]
    rfl
  simp only [txChunk, State.byteAt, hread, hepoch]

theorem txIdent_congr (hparams : s.params = u.params) (hsa : s.txSa = u.txSa) (pgn : Pgn) :
    txIdent pgn s = txIdent pgn u := by
  rw [txIdent, txIdent, hparams, hsa]

/-- One frame given by two states that agree on the sender's bank. -/
theorem giveFrame_agree {id id' : Ident} {pay pay' : List Byte} (hid : id = id') (hpay : pay = pay')
    (h : sameSender s u) : outcomesAgree sameSender (giveFrame id pay s) (giveFrame id' pay' u) := by
  subst hid hpay
  exact ⟨rfl, h⟩

section
variable (hparams : s.params = u.params) (hepoch : s.txEpoch = u.txEpoch) (h : sameSender s u)
include hparams h

theorem sendBam_agree : outcomesAgree sameSender (sendBam s) (sendBam u) := by
  obtain ⟨_, hsa, hpgn, htotal, _, hbuf⟩ := h
  refine giveFrame_agree (txIdent_congr hparams hsa _) ?_ ⟨rfl, hsa, hpgn, htotal, rfl, hbuf⟩
  rw [htotal, hpgn]

include hepoch

theorem sendData_agree : outcomesAgree sameSender (sendData s) (sendData u) := by
  obtain ⟨hstate, hsa, hpgn, htotal, hidx, hbuf⟩ := h
  unfold sendData
  rw [hidx, htotal]
  exact outcomesAgree_ite (fun _ => rfl) fun _ => giveFrame_agree (txIdent_congr hparams hsa _)
    (congrArg (dtPayload _) (txChunk_congr hepoch hbuf _ _)) ⟨hstate, hsa, hpgn, htotal, congrArg (· + 1) hidx, hbuf⟩

theorem sender_agree {i : Instr} (hi : i.unit = .sender) : outcomesAgree sameSender (exec i s) (exec i u) := by
  obtain ⟨hstate, hsa, hpgn, htotal, hidx, hbuf⟩ := id h
  have hraise (st : Status) : outcomesAgree sameSender (raise st s) (raise st u) := ⟨rfl, h⟩
  cases i with
  | txbWr a v =>
    change outcomesAgree _ (execTxbWr a v s) (execTxbWr a v u)
    rw [execTxbWr, execTxbWr, hstate]
    exact outcomesAgree_ite (fun _ => hraise _) fun _ => outcomesAgree_ite (fun _ => hraise _) fun _ =>
      ⟨rfl, hstate, hsa, hpgn, htotal, hidx, congrArg (Memory.write none · a.toNat v) hbuf⟩
  | txsOpen sa pgn len => exact outcomesAgree_ite (fun _ => hraise _) fun _ => ⟨rfl, rfl, rfl, rfl, rfl, hidx, hbuf⟩
  | txsCount =>
    change outcomesAgree _ (execTxsCount s) (execTxsCount u)
    rw [execTxsCount, execTxsCount, hstate, htotal]
    exact outcomesAgree_ite (fun _ => hraise _) fun _ => ⟨rfl, h⟩
  | txsNext =>
    change outcomesAgree _ (execTxsNext s) (execTxsNext u)
    rw [execTxsNext, execTxsNext, hstate]
    cases u.txState with
    | idle => exact hraise _
    | connectionManagement => exact sendBam_agree hparams h
    | dataTransfer =>
      rw [hidx, htotal]
      exact outcomesAgree_ite (fun _ => sendData_agree hparams hepoch h) fun _ => hraise _
  | txsClose => exact ⟨rfl, rfl, hsa, hpgn, htotal, hidx, hbuf⟩
  | _ => nomatch hi

end

/-! The receiver reads its bank, RXBUF and the fill byte. -/

theorem storeChunk_rxBuf_congr (off : Nat) (bs : List Byte) (hparams : s.params = u.params)
    (htotal : s.rxTotal = u.rxTotal) (hbuf : s.rxBuf = u.rxBuf) :
    (storeChunk off bs s).rxBuf = (storeChunk off bs u).rxBuf := by
  induction bs generalizing off s u with
  | nil => exact hbuf
  | cons b bs ih =>
    rw [storeChunk, storeChunk, htotal]
    split
    · refine ih (s := s.writeRx off b) (u := u.writeRx off b) (off + 1) hparams htotal ?_
      rw [State.writeRx_rxBuf, State.writeRx_rxBuf, State.unlisted_rxBuf, State.unlisted_rxBuf, hparams, hbuf]
    · exact ih (off + 1) hparams htotal hbuf

section
variable (hparams : s.params = u.params) (h : sameReceiver s u)
include h

theorem rxQuery_agree {w w' : Word} (hw : w = w') : outcomesAgree sameReceiver (rxQuery w s) (rxQuery w' u) := by
  subst hw
  rw [rxQuery, rxQuery, h.1]
  exact outcomesAgree_ite (fun _ => ⟨rfl, h⟩) fun _ => ⟨rfl, h⟩

theorem feedConnection_agree (n : Nat) (id : Ident) (pay : List Byte) :
    outcomesAgree sameReceiver (feedConnection n id pay s) (feedConnection n id pay u) :=
  outcomesAgree_ite (fun _ => ⟨rfl, h⟩) fun _ => outcomesAgree_ite (fun _ => ⟨rfl, h⟩) fun _ =>
    outcomesAgree_ite (fun _ => ⟨rfl, h⟩) fun _ => ⟨rfl, rfl, rfl, rfl, rfl, rfl, rfl⟩

include hparams

theorem feedData_agree (n : Nat) (pay : List Byte) :
    outcomesAgree sameReceiver (feedData n pay s) (feedData n pay u) := by
  obtain ⟨hstate, hsa, hpgn, htotal, _, hbuf⟩ := id h
  rcases feedData_cases n pay s with ⟨hn, hs⟩ | ⟨hn, hbad, hs⟩ | ⟨hn, hdt, hsq, hs⟩
  · rw [hs, feedData_of_empty hn]
    exact ⟨rfl, h⟩
  · rw [hs, feedData_of_violation hn (hstate ▸ hbad)]
    exact ⟨rfl, h⟩
  · rw [hs, feedData_of_session hn (hstate ▸ hdt) hsq, storeChunk_setRxLen, storeChunk_setRxLen]
    have hlen (k : Nat) : BitVec.ofNat 11 (min s.rxTotal.toNat k) = BitVec.ofNat 11 (min u.rxTotal.toNat k) := by
      rw [htotal]
    exact ⟨rfl, hstate, hsa, hpgn, htotal, hlen _, storeChunk_rxBuf_congr _ _ hparams htotal hbuf⟩

theorem feedFrame_agree (n : Nat) (id : Ident) (pay : List Byte) :
    outcomesAgree sameReceiver (feedFrame n id pay s) (feedFrame n id pay u) :=
  outcomesAgree_ite (fun _ => feedConnection_agree h n id pay) fun _ =>
    outcomesAgree_ite (fun _ => feedData_agree hparams h n pay) fun _ => ⟨rfl, h⟩

theorem byteAt_rxBuf_congr (a : Nat) : s.byteAt .rxBuf a = u.byteAt .rxBuf a := by
  obtain ⟨_, _, _, _, _, hbuf⟩ := h
  apply State.byteAt_of_readByte
  rw [← State.readByte_rxBuf_byteAt]
  exact State.readByte_congr (sp := .rxBuf) hbuf hparams a

theorem receiver_agree {i : Instr} (hi : i.unit = .receiver) : outcomesAgree sameReceiver (exec i s) (exec i u) := by
  obtain ⟨hstate, hsa, hpgn, htotal, hlen, hbuf⟩ := id h
  cases i with
  | rxsFeed | tpCmBam | tpDt => exact feedFrame_agree hparams h ..
  | rxsLen => exact rxQuery_agree h (congrArg (BitVec.setWidth 32) hlen)
  | rxsTotal => exact rxQuery_agree h (congrArg (BitVec.setWidth 32) htotal)
  | rxsPgn => exact rxQuery_agree h (congrArg (BitVec.setWidth 32) hpgn)
  | rxsSa => exact rxQuery_agree h (congrArg (BitVec.setWidth 32) hsa)
  | rxbRd a =>
    change outcomesAgree _ (execRxbRd a s) (execRxbRd a u)
    rw [execRxbRd, execRxbRd, hstate, hlen, byteAt_rxBuf_congr hparams h]
    exact outcomesAgree_ite (fun _ => ⟨rfl, h⟩) fun _ => outcomesAgree_ite (fun _ => ⟨rfl, h⟩) fun _ => ⟨rfl, h⟩
  | rxsClose => exact ⟨rfl, rfl, hsa, hpgn, htotal, hlen, hbuf⟩
  | _ => nomatch hi

end

end

/-- Settles O59, bank by bank. -/
theorem banksDoNotReadEachOther : Obligations.BanksDoNotReadEachOther :=
  fun _ _ _ => ⟨builder_agree, fun hi hparams hepoch h => sender_agree hparams hepoch h hi,
    fun hi hparams h => receiver_agree hparams h hi⟩

end Sys2Proof
end

section
/-! SUPPORT. The encoder against the decoder (30_encoding.md): every operation is what its own block decodes to, a
wire-format row is what its core operation is, and the rows of spec/opcode_table.json are the decoder's. -/

namespace Sys2Proof

open Sys2Proof.Machine

/-! ### Decoding an encoded operation -/

/-- An operand in the low bits of a word is read back. -/
theorem extractLsb'_setWidth_self {n : Nat} (x : BitVec n) (hn : n ≤ 32) : (x.setWidth 32).extractLsb' 0 n = x := by
  rw [BitVec.extractLsb'_setWidth_of_le (by omega), BitVec.extractLsb'_eq_self]

theorem setWidth_setWidth_self {n : Nat} (x : BitVec n) (hn : n ≤ 32) : (x.setWidth 32).setWidth n = x := by
  rw [BitVec.setWidth_setWidth_of_le x hn, BitVec.setWidth_eq]

/-- The modifier of a FLD block is LEN and the width code, the ignored bit 0. -/
theorem append_eq_fieldModifier (w : FieldWidth) (len : BitVec 4) :
    len ++ 0#2 ++ BitVec.ofNat 2 w.code = fieldModifier w len false := by
  have hcode := w.code_le
  apply BitVec.eq_of_toNat_eq
  rw [fieldModifier_toNat]
  refine (append_toNat (len ++ 0#2) (BitVec.ofNat 2 w.code)).trans ?_
  rw [append_toNat len 0#2, BitVec.toNat_ofNat, BitVec.toNat_ofNat, Bool.toNat_false]
  omega

/-- The block of a FLD operation has the header of its width and length. -/
theorem encodeFld_eq (op : Byte) (w : FieldWidth) (len : BitVec 4) (k pw0 pw1 raw : Word) :
    encodeFld op (BitVec.ofNat 2 w.code) len k pw0 pw1 raw = ⟨fieldHeader op.toNat w len false, k, pw0, pw1, raw, 0⟩ := by
  rw [encodeFld, append_eq_fieldModifier, fieldHeader_eq]
  rfl

theorem decode_encode_getInstr (w : FieldWidth) (len : BitVec 4) (k pw0 pw1 : Word) :
    decode (encodeFld 0x48 (BitVec.ofNat 2 w.code) len k pw0 pw1 0) = .ok (getInstr w len k pw0 pw1) := by
  rw [encodeFld_eq]
  exact getInstr_encodedAs w len false k pw0 pw1 0 0

theorem decode_encode_putInstr (w : FieldWidth) (len : BitVec 4) (k pw0 pw1 raw : Word) :
    decode (encodeFld 0x49 (BitVec.ofNat 2 w.code) len k pw0 pw1 raw) = .ok (putInstr w len k pw0 pw1 raw) := by
  rw [encodeFld_eq]
  exact putInstr_encodedAs w len false k pw0 pw1 raw 0

theorem decode_encodeFeed (len : BitVec 4) (id : Ident) (pw0 pw1 : Word) :
    decode (encodeFeed len id pw0 pw1) = .ok (.rxsFeed len id pw0 pw1) := by
  refine (decode_header 0x60 (0#4 ++ len) (id.setWidth 32) pw0 pw1 0 0).trans ?_
  change decodeRxsFeed _ _ = _
  rw [decodeRxsFeed, BitVec.extractLsb'_append_eq_left, BitVec.extractLsb'_append_eq_right,
    extractLsb'_setWidth_self id (by decide)]
  rfl

/-- A block is decoded by the arm of its opcode. -/
theorem decode_block {op m : Byte} {w1 w2 w3 w4 w5 : Word} {i : Instr}
    (h : decodeOp op m ⟨headerWord op m, w1, w2, w3, w4, w5⟩ = .ok i) : decode (block op m w1 w2 w3 w4 w5) = .ok i :=
  (decode_header op m w1 w2 w3 w4 w5).trans h

/-- An operation whose one operand lies in the low bits of W1. -/
theorem decode_block_operand {n : Nat} (hn : n ≤ 32) {op m : Byte} {w2 w3 w4 w5 : Word} {f : BitVec n → Instr}
    (h : ∀ w1, decodeOp op m ⟨headerWord op m, w1, w2, w3, w4, w5⟩ = .ok (f (w1.extractLsb' 0 n))) (x : BitVec n) :
    decode (block op m (x.setWidth 32) w2 w3 w4 w5) = .ok (f x) :=
  decode_block ((h _).trans (by rw [extractLsb'_setWidth_self x hn]))

theorem decode_encodeSlotDec (t : RawType) (raw : Word) (d : SlotDesc) :
    decode (encodeSlotDec (BitVec.ofNat 3 t.code) raw d) = .ok (decInstr t raw d) :=
  decode_block (by cases t <;> rfl)

theorem decode_encodeSlotEnc (t : RawType) (value : Option Word) (d : SlotDesc) :
    decode (encodeSlotEnc (BitVec.ofNat 3 t.code) value d) = .ok (encInstr t value d) := by
  cases value with
  | none => exact decode_block (by cases t <;> rfl)
  | some v => exact decode_block (by cases t <;> rfl)

theorem decode_encode_txbWr (a : Word) (v : Byte) : decode (encode (.txbWr a v)) = .ok (.txbWr a v) := by
  have hv := extractLsb'_setWidth_self v (by decide)
  exact decode_block (congrArg (fun x => Decoded.ok (.txbWr a x)) hv)

theorem decode_encode_txsOpen (sa : Byte) (pgn : Pgn) (len : Word) :
    decode (encode (.txsOpen sa pgn len)) = .ok (.txsOpen sa pgn len) := by
  have hsa := extractLsb'_setWidth_self sa (by decide)
  have hpgn := extractLsb'_setWidth_self pgn (by decide)
  exact decode_block (congrArg₂ (fun x y => Decoded.ok (.txsOpen x y len)) hsa hpgn)

theorem decode_encode_pgnFromLe (b0 b1 b2 : Byte) :
    decode (encode (.pgnFromLe b0 b1 b2)) = .ok (.pgnFromLe b0 b1 b2) := by
  have h0 : (0#8 ++ b2 ++ b1 ++ b0).extractLsb' 0 8 = b0 := BitVec.extractLsb'_append_eq_right
  have h1 : (0#8 ++ b2 ++ b1 ++ b0).extractLsb' 8 8 = b1 := by
    rw [BitVec.extractLsb'_append_eq_of_le (by decide)]
    exact BitVec.extractLsb'_append_eq_right
  have h2 : (0#8 ++ b2 ++ b1 ++ b0).extractLsb' 16 8 = b2 := by
    rw [BitVec.extractLsb'_append_eq_of_le (by decide), BitVec.extractLsb'_append_eq_of_le (by decide)]
    exact BitVec.extractLsb'_append_eq_right
  refine decode_block ?_
  change Decoded.ok (.pgnFromLe ((0#8 ++ b2 ++ b1 ++ b0).extractLsb' 0 8) ((0#8 ++ b2 ++ b1 ++ b0).extractLsb' 8 8)
    ((0#8 ++ b2 ++ b1 ++ b0).extractLsb' 16 8)) = _
  rw [h0, h1, h2]

theorem decode_encode_of_not_wire {i : Instr} (hi : i.isWire = false) : decode (encode i) = .ok i := by
  cases i with
  | canId | canIdPdu2 | pgnWire | tpCmBam | tpDt => nomatch hi
  | idPrio x | idDp x | idPf x | idPs x | idPgn x | idDa x | idGe x | idSa x | idBcast x | bldPgn x | bldPrio x | bldSa x
  | bldDa x | pgnToLe x => exact decode_block_operand (by decide) (fun _ => rfl) x
  | slotDecU8 raw d =>
    have hraw := setWidth_setWidth_self raw (by decide)
    exact (decode_encodeSlotDec .u8 ..).trans (congrArg (fun x => Decoded.ok (.slotDecU8 x d)) hraw)
  | slotDecU16 raw d =>
    have hraw := setWidth_setWidth_self raw (by decide)
    exact (decode_encodeSlotDec .u16 ..).trans (congrArg (fun x => Decoded.ok (.slotDecU16 x d)) hraw)
  | slotDecI8 raw d =>
    have hraw := setWidth_setWidth_self raw (by decide)
    exact (decode_encodeSlotDec .i8 ..).trans (congrArg (fun x => Decoded.ok (.slotDecI8 x d)) hraw)
  | slotDecI16 raw d =>
    have hraw := setWidth_setWidth_self raw (by decide)
    exact (decode_encodeSlotDec .i16 ..).trans (congrArg (fun x => Decoded.ok (.slotDecI16 x d)) hraw)
  | slotDecU32 raw d => exact decode_encodeSlotDec .u32 raw d
  | slotDecI32 raw d => exact decode_encodeSlotDec .i32 raw d
  | slotEncU8 value d => exact decode_encodeSlotEnc .u8 value d
  | slotEncU16 value d => exact decode_encodeSlotEnc .u16 value d
  | slotEncU32 value d => exact decode_encodeSlotEnc .u32 value d
  | slotEncI8 value d => exact decode_encodeSlotEnc .i8 value d
  | slotEncI16 value d => exact decode_encodeSlotEnc .i16 value d
  | slotEncI32 value d => exact decode_encodeSlotEnc .i32 value d
  | fldGetW1 len k pw0 pw1 => exact decode_encode_getInstr .w1 len k pw0 pw1
  | fldGetW2 len k pw0 pw1 => exact decode_encode_getInstr .w2 len k pw0 pw1
  | fldGetW4 len k pw0 pw1 => exact decode_encode_getInstr .w4 len k pw0 pw1
  | fldPutW1 len k pw0 pw1 raw =>
    have hraw := setWidth_setWidth_self raw (by decide)
    exact (decode_encode_putInstr .w1 ..).trans (congrArg (fun x => Decoded.ok (.fldPutW1 len k pw0 pw1 x)) hraw)
  | fldPutW2 len k pw0 pw1 raw =>
    have hraw := setWidth_setWidth_self raw (by decide)
    exact (decode_encode_putInstr .w2 ..).trans (congrArg (fun x => Decoded.ok (.fldPutW2 len k pw0 pw1 x)) hraw)
  | fldPutW4 len k pw0 pw1 raw => exact decode_encode_putInstr .w4 len k pw0 pw1 raw
  | txbWr a v => exact decode_encode_txbWr a v
  | txsOpen sa pgn len => exact decode_encode_txsOpen sa pgn len
  | pgnFromLe b0 b1 b2 => exact decode_encode_pgnFromLe b0 b1 b2
  | rxsFeed len id pw0 pw1 => exact decode_encodeFeed len id pw0 pw1
  | _ => exact decode_block rfl

/-- Settles O8, operation by operation. -/
theorem decodeOfEncodeIsTheInstruction : Obligations.DecodeOfEncodeIsTheInstruction :=
  fun _ hi => decode_encode_of_not_wire hi

/-! ### The wire-format rows -/

/-- A wire-format row is issued by the block of its core operation. -/
theorem encode_core (i : Instr) : encode i.core = encode i := by
  cases i <;> rfl

theorem core_isWire (i : Instr) : i.core.isWire = false := by
  cases i <;> rfl

theorem decode_encode (i : Instr) : decode (encode i) = .ok i.core := by
  rw [← encode_core]
  exact decode_encode_of_not_wire (core_isWire i)

theorem exec_core_canId (prio : BitVec 3) (edp dp : BitVec 1) (pf ps sa : Byte) (s : State) :
    exec (.canId prio edp dp pf ps sa) s = exec (Instr.canId prio edp dp pf ps sa).core s :=
  congrArg (fun id : Ident => give (id.setWidth 32) s)
    (extractLsb'_setWidth_self (packIdent prio edp dp pf ps sa) (by decide)).symm

theorem exec_core_pgnWire (b0 b1 : Byte) (hi : BitVec 2) (s : State) :
    exec (.pgnWire b0 b1 hi) s = exec (Instr.pgnWire b0 b1 hi).core s := by
  have hb2 : hi.setWidth 8 = 0#6 ++ hi := BitVec.setWidth_eq_append (by decide)
  exact congrArg (fun b2 => give ((pgnFromLe b0 b1 b2).setWidth 32) s) hb2

theorem leValue_pgnToLe (pgn : Pgn) : leValue (pgnToLe pgn) = pgn.toNat := by
  have hpgn := pgn.isLt
  simp only [pgnToLe, leValue_cons, leValue_nil, BitVec.toNat_setWidth_of_le (show 2 ≤ 8 by decide), extract_toNat]
  omega

/-- The payload words of a BAM frame hold its eight bytes (R65, R75). -/
theorem payloadBytes_bamWords (total : BitVec 16) (count : Byte) (pgn : Pgn) :
    payloadBytes (bamWord0 total count) (bamWord1 pgn) =
      [Config.tpBam, total.extractLsb' 0 8, total.extractLsb' 8 8, count, Config.tpPad] ++ pgnToLe pgn := by
  have htotal := total.isLt
  have hbam : Config.tpBam.toNat = 0x20 := rfl
  have hpad : Config.tpPad.toNat = 0xFF := rfl
  have h0 : (bamWord0 total count).toNat = (count.toNat * 2 ^ 16 + total.toNat) * 2 ^ 8 + 0x20 :=
    (append_toNat (count ++ total) Config.tpBam).trans (by rw [append_toNat count total, hbam])
  have h1 : (bamWord1 pgn).toNat = pgn.toNat * 2 ^ 8 + 0xFF :=
    (append_toNat (0#6 ++ pgn) Config.tpPad).trans (by rw [append_toNat 0#6 pgn, hpad]; simp)
  refine eq_of_leValue_eq rfl ?_
  rw [leValue_payloadBytes, leValue_append, leValue_pgnToLe, h0, h1]
  simp only [leValue_cons, leValue_nil, extract_toNat, hbam, hpad, List.length_cons, List.length_nil]
  omega

/-- The payload words of a DataTransfer frame hold its eight bytes (R66, R75). -/
theorem payloadBytes_dtWords (sq : Byte) (data : BitVec 56) :
    payloadBytes (dtWord0 sq data) (dtWord1 data) =
      sq :: (List.range Config.tpChunk).map (fun i => data.extractLsb' (8 * i) 8) := by
  have hdata := data.isLt
  have h0 : (dtWord0 sq data).toNat = data.toNat % 2 ^ 24 * 2 ^ 8 + sq.toNat :=
    (append_toNat (data.extractLsb' 0 24) sq).trans (by rw [extract_toNat, pow_zero, Nat.div_one])
  have h1 : (dtWord1 data).toNat = data.toNat / 2 ^ 24 % 2 ^ 32 := extract_toNat data 24 32
  refine eq_of_leValue_eq rfl ?_
  rw [leValue_payloadBytes, h0, h1]
  simp only [show List.range Config.tpChunk = [0, 1, 2, 3, 4, 5, 6] from rfl, List.map_cons, List.map_nil, leValue_cons,
    leValue_nil, extract_toNat]
  omega

theorem exec_core_tpCmBam (id : Ident) (total : BitVec 16) (count : Byte) (pgn : Pgn) (s : State) :
    exec (.tpCmBam id total count pgn) s = exec (Instr.tpCmBam id total count pgn).core s :=
  congrArg (feedFrame 8 id · s) (payloadBytes_bamWords total count pgn).symm

theorem exec_core_tpDt (id : Ident) (sq : Byte) (data : BitVec 56) (s : State) :
    exec (.tpDt id sq data) s = exec (Instr.tpDt id sq data).core s :=
  congrArg (feedFrame 8 id · s) (payloadBytes_dtWords sq data).symm

/-- A wire-format row has the meaning of its core operation in every state (log entry 10). -/
theorem exec_core (i : Instr) (s : State) : exec i s = exec i.core s := by
  cases i with
  | canId => exact exec_core_canId ..
  | pgnWire => exact exec_core_pgnWire ..
  | tpCmBam => exact exec_core_tpCmBam ..
  | tpDt => exact exec_core_tpDt ..
  | _ => rfl

/-- Settles O9. -/
theorem wireRowsActAsTheirOperation : Obligations.WireRowsActAsTheirOperation :=
  fun i _ => ⟨core_isWire i, decode_encode i, exec_core i⟩

/-! ### Words of the table -/

/-- The block with which the host presents a word of the table decodes to the row, or to the operation that the row stands
for. -/
theorem decode_tableCommand {nbits w : Nat} {i : Instr} (h : decodeTableWord nbits w = some i) :
    decode (tableCommand nbits w) = .ok i ∨ decode (tableCommand nbits w) = .ok i.core := by
  unfold decodeTableWord at h
  unfold tableCommand
  split_ifs at h ⊢
  · obtain rfl := Option.some.inj h
    exact .inr (decode_encode _)
  · obtain rfl := Option.some.inj h
    exact .inr (decode_encode _)
  · split at h
    next hd => rw [hd, Option.some.inj h]; exact .inl rfl
    next => nomatch h

/-- Settles O15: the placed block runs the row, or the operation that means the same. -/
theorem tableWordRunsItsRow : Obligations.TableWordRunsItsRow := by
  intro s nbits w i h
  rcases decode_tableCommand h with hd | hd
  · exact step_of_decode_ok (s := s.withFetchWord nbits w) rfl hd
  · exact (step_of_decode_ok (s := s.withFetchWord nbits w) rfl hd).trans (exec_core i s).symm

/-- Settles O13: each block is one of the encodings, or breaks one of their conditions. -/
theorem sampleWordsDecode : Obligations.SampleWordsDecode := by
  refine ⟨?_, ?_, ?_, ?_, ?_, ?_, ?_, ?_⟩ <;> decide

end Sys2Proof
end

section
/-! SUPPORT. The 48 operation rows of spec/opcode_table.json against the decoder (30_encoding.md R80, R81): the fields of a
header word that matches a row, and the row that each decoded operation comes from. -/

namespace Sys2Proof

open Sys2Proof.Machine

/-! ### Masks over the header -/

/-- The mask that covers OP, the reserved half, and the MOD bits `k`. -/
def headerMask (k : Byte) : Word := 0xFF#8 ++ k ++ 0xFFFF#16

theorem headerWord_and_headerMask (op m k : Byte) : headerWord op m &&& headerMask k = headerWord op (m &&& k) := by
  unfold headerWord headerMask
  rw [BitVec.and_append, BitVec.and_append]
  congr 2
  exact BitVec.and_allOnes

/-- The MOD bits that the rows of an opcode cover: all but those that R80 lets vary within a row. -/
def coveredMod (op : Byte) : Byte :=
  if op = 0x41 then 0x7F else if op = 0x48 ∨ op = 0x49 then 0x0B else if op = 0x60 then 0xF0 else 0xFF

theorem extractLsb'_and_of_covered {m k : Byte} {lo n : Nat} (hk : k.extractLsb' lo n = BitVec.allOnes n) :
    (m &&& k).extractLsb' lo n = m.extractLsb' lo n := by
  rw [BitVec.extractLsb'_and, hk, BitVec.and_allOnes]

/-- R81's conditions on a header read no MOD bit but these. -/
theorem illegalHeader_and_coveredMod (op m : Byte) :
    illegalHeader (headerWord op (m &&& coveredMod op)) ↔ illegalHeader (headerWord op m) := by
  by_cases henc : op = 0x41
  · subst henc
    rw [illegalHeader_slotEnc_iff, illegalHeader_slotEnc_iff, extractLsb'_and_of_covered (by decide),
      extractLsb'_and_of_covered (by decide)]
  by_cases hfld : op = 0x48 ∨ op = 0x49
  · have hcov : coveredMod op = 0x0B := by rw [coveredMod, if_neg henc, if_pos hfld]
    rw [illegalHeader_fld_iff _ hfld, illegalHeader_fld_iff _ hfld, hcov, extractLsb'_and_of_covered (by decide),
      extractLsb'_and_of_covered (by decide)]
  by_cases hfeed : op = 0x60
  · subst hfeed
    rw [illegalHeader_rxsFeed_iff, illegalHeader_rxsFeed_iff, extractLsb'_and_of_covered (by decide)]
  · have hcov : coveredMod op = BitVec.allOnes 8 := by rw [coveredMod, if_neg henc, if_neg hfld, if_neg hfeed]; rfl
    rw [hcov, BitVec.and_allOnes]

/-! ### A block that matches a row is legal -/

/-- Each row covers the header but for the MOD bits that may vary, and its reserved half is zero. -/
theorem opTable_covers : ∀ r ∈ opTable, r.pattern.extractLsb' 0 16 = 0 ∧
    r.mask = headerMask (coveredMod (r.pattern.extractLsb' 24 8)) := by decide

theorem opTable_legal : ∀ r ∈ opTable, ¬ illegalHeader r.pattern := by
  unfold illegalHeader
  decide

theorem and_eq_of_matches {r : OpRow} {c : Command} (h : r.matches c = true) : c.w0 &&& r.mask = r.pattern :=
  beq_iff_eq.mp h

/-- The fields of a block that matches a row, under the row's mask. -/
theorem header_of_matches {r : OpRow} {c : Command} (hr : r ∈ opTable) (h : r.matches c = true) :
    c.w0 = headerWord c.op c.modifier ∧ r.pattern = headerWord c.op (c.modifier &&& coveredMod c.op) := by
  obtain ⟨hreserved, hmask⟩ := opTable_covers r hr
  have hand := and_eq_of_matches h
  generalize hk : coveredMod (r.pattern.extractLsb' 24 8) = k at hmask
  rw [hmask] at hand
  have hlow : c.low = 0 := by
    have hones : (headerMask k).extractLsb' 0 16 = BitVec.allOnes 16 := BitVec.extractLsb'_append_eq_right
    rw [← hand, BitVec.extractLsb'_and, hones, BitVec.and_allOnes] at hreserved
    exact hreserved
  have hw0 := Command.header_of_low hlow
  rw [hw0, headerWord_and_headerMask] at hand
  have hop : r.pattern.extractLsb' 24 8 = c.op := by rw [← hand]; exact op_header c.op _ 0 0 0 0 0
  rw [← hand, ← hk, hop]
  exact ⟨hw0, rfl⟩

theorem exists_decode_of_matches {r : OpRow} {c : Command} (hr : r ∈ opTable) (h : r.matches c = true) :
    ∃ i, decode c = .ok i := by
  obtain ⟨hw0, hpattern⟩ := header_of_matches hr h
  have hlegal := opTable_legal r hr
  rw [hpattern, illegalHeader_and_coveredMod, ← hw0, illegalHeader_iff_decode] at hlegal
  cases hd : decode c with
  | ok i => exact ⟨i, rfl⟩
  | illegal why => exact absurd ⟨why, hd⟩ hlegal

/-! ### A decoded block matches the row of its operation -/

/-- The header word matches some row of this mnemonic. -/
def HasRow (w0 : Word) (mnemonic : String) : Prop :=
  ∃ r ∈ opTable, w0 &&& r.mask = r.pattern ∧ r.mnemonic = mnemonic

section
variable {m : Byte} {c : Command} {i : Instr}

theorem hasRow_of_and {op : Byte} {mnemonic : String} {k p : Byte} (h : m &&& k = p)
    (hr : ⟨mnemonic, headerWord op p, headerMask k⟩ ∈ opTable) : HasRow (headerWord op m) mnemonic :=
  ⟨_, hr, by rw [headerWord_and_headerMask, h], rfl⟩

/-! The covered bits of a legal MOD are its type code, or zero. -/

theorem slotDec_covered (h : m.extractLsb' 3 5 = 0) : m &&& 0xFF = BitVec.ofNat 8 (m.extractLsb' 0 3).toNat := by
  decide +revert

theorem slotEnc_covered (h : m.extractLsb' 3 4 = 0) : m &&& 0x7F = BitVec.ofNat 8 (m.extractLsb' 0 3).toNat := by
  decide +revert

theorem fld_covered (h : m.extractLsb' 3 1 = 0) : m &&& 0x0B = BitVec.ofNat 8 (m.extractLsb' 0 2).toNat := by
  decide +revert

theorem rxsFeed_covered (h : m.extractLsb' 4 4 = 0) : m &&& 0xF0 = 0 := by
  decide +revert

theorem hasRow_of_slotDec (h : decodeSlotDec m c = .ok i) : HasRow (headerWord 0x40 m) i.mnemonic := by
  unfold decodeSlotDec at h
  split_ifs at h with hres
  have hm := slotDec_covered (not_not.mp hres)
  split at h <;> cases h
  all_goals next ht => exact hasRow_of_and (ht ▸ hm) (by rw [Instr.mnemonic]; decide)

theorem hasRow_of_slotEnc (h : decodeSlotEnc m c = .ok i) : HasRow (headerWord 0x41 m) i.mnemonic := by
  unfold decodeSlotEnc at h
  split_ifs at h with hres
  have hm := slotEnc_covered (not_not.mp hres)
  split at h <;> cases h
  all_goals next ht => exact hasRow_of_and (ht ▸ hm) (by rw [Instr.mnemonic]; decide)

theorem hasRow_of_fldGet (h : decodeFldGet m c = .ok i) : HasRow (headerWord 0x48 m) i.mnemonic := by
  unfold decodeFldGet at h
  split_ifs at h with hres
  have hm := fld_covered (not_not.mp hres)
  split at h <;> cases h
  all_goals next ht => exact hasRow_of_and (ht ▸ hm) (by rw [Instr.mnemonic]; decide)

theorem hasRow_of_fldPut (h : decodeFldPut m c = .ok i) : HasRow (headerWord 0x49 m) i.mnemonic := by
  unfold decodeFldPut at h
  split_ifs at h with hres
  have hm := fld_covered (not_not.mp hres)
  split at h <;> cases h
  all_goals next ht => exact hasRow_of_and (ht ▸ hm) (by rw [Instr.mnemonic]; decide)

theorem hasRow_of_rxsFeed (h : decodeRxsFeed m c = .ok i) : HasRow (headerWord 0x60 m) i.mnemonic := by
  unfold decodeRxsFeed at h
  split_ifs at h with hres
  cases h
  exact hasRow_of_and (rxsFeed_covered (not_not.mp hres)) (by rw [Instr.mnemonic]; decide)

theorem eq_ofNat_of_toNat_eq {op : Byte} {n : Nat} (h : op.toNat = n) : op = BitVec.ofNat 8 n := by
  rw [← h, BitVec.ofNat_toNat, BitVec.setWidth_eq]

theorem eq_of_decodePlain {j : Instr} (h : decodePlain m j = .ok i) : m = 0 ∧ j = i := by
  unfold decodePlain at h
  split_ifs at h with hm
  exact ⟨hm, Decoded.ok.inj h⟩

/-- In every arm of the opcode map the operation has a row. -/
theorem hasRow_of_decodeOp {op : Byte} (h : decodeOp op m c = .ok i) : HasRow (headerWord op m) i.mnemonic := by
  unfold decodeOp at h
  split at h
  case h_19 hop => obtain rfl : op = 0x40 := BitVec.eq_of_toNat_eq hop; exact hasRow_of_slotDec h
  case h_20 hop => obtain rfl : op = 0x41 := BitVec.eq_of_toNat_eq hop; exact hasRow_of_slotEnc h
  case h_21 hop => obtain rfl : op = 0x48 := BitVec.eq_of_toNat_eq hop; exact hasRow_of_fldGet h
  case h_22 hop => obtain rfl : op = 0x49 := BitVec.eq_of_toNat_eq hop; exact hasRow_of_fldPut h
  case h_28 hop => obtain rfl : op = 0x60 := BitVec.eq_of_toNat_eq hop; exact hasRow_of_rxsFeed h
  case h_35 => nomatch h
  all_goals next hop =>
    obtain rfl := eq_ofNat_of_toNat_eq hop
    obtain ⟨rfl, rfl⟩ := eq_of_decodePlain h
    exact hasRow_of_and (k := 0xFF) (p := 0) (by decide) (by rw [Instr.mnemonic]; decide)

end

theorem exists_row_of_decode {c : Command} {i : Instr} (h : decode c = .ok i) :
    ∃ r ∈ opTable, r.matches c = true ∧ r.mnemonic = i.mnemonic := by
  have hlow : c.low = 0 := by
    by_contra hne
    exact nomatch h.symm.trans (decode_of_low_ne hne)
  rw [decode_of_low hlow] at h
  obtain ⟨r, hr, hand, hname⟩ := hasRow_of_decodeOp h
  rw [← Command.header_of_low hlow] at hand
  exact ⟨r, hr, beq_iff_eq.mpr hand, hname⟩

/-! ### No block matches two rows -/

/-- The patterns of two rows differ where both masks look. -/
theorem opTable_patterns_differ : opTable.Pairwise (fun r q => r.pattern &&& q.mask ≠ q.pattern &&& r.mask) := by
  decide

/-- No block matches both rows. -/
def RowsDisjoint (r q : OpRow) : Prop := ∀ c : Command, r.matches c = true → q.matches c = false

theorem opTable_disjoint : opTable.Pairwise RowsDisjoint := by
  refine opTable_patterns_differ.imp fun {r q} hne c hr => Bool.eq_false_iff.mpr fun hq => hne ?_
  rw [← and_eq_of_matches hr, ← and_eq_of_matches hq, BitVec.and_assoc, BitVec.and_assoc, BitVec.and_comm r.mask]

/-- The row of a block is the only one. -/
theorem row_unique {r q : OpRow} {c : Command} (hr : r ∈ opTable) (hq : q ∈ opTable) (h : r.matches c = true)
    (h' : q.matches c = true) : r = q := by
  have : Std.Symm RowsDisjoint := ⟨fun r q hd c hq =>
    Bool.eq_false_iff.mpr fun hr => Bool.false_ne_true ((hd c hr).symm.trans hq)⟩
  by_contra hne
  exact Bool.false_ne_true ((opTable_disjoint.forall hr hq hne c h).symm.trans h')

/-- Settles O11: a block that matches a row is legal, a legal one matches the row of its operation, and that is the only
row it matches. -/
theorem tableRowsDecideTheDecoder : Obligations.TableRowsDecideTheDecoder := by
  refine ⟨fun c r hr h => ?_, fun c hnone => ?_, opTable_disjoint⟩
  · obtain ⟨i, hd⟩ := exists_decode_of_matches hr h
    obtain ⟨q, hq, hmatch, hname⟩ := exists_row_of_decode hd
    exact ⟨i, hd, by rw [row_unique hr hq h hmatch, hname]⟩
  · cases hd : decode c with
    | ok i =>
      obtain ⟨r, hr, hmatch, _⟩ := exists_row_of_decode hd
      exact absurd hmatch (Bool.eq_false_iff.mp (hnone r hr))
    | illegal why => exact ⟨why, rfl⟩

end Sys2Proof
end

section
/-! SUPPORT. Values through more than one operation: the data rows of the wire formats, the builder's round trip, and the PGN
wire codec's (30_encoding.md sections A1 and A2; 40_identifier.md sections 3 and 4). -/

namespace Sys2Proof

open Sys2Proof.Machine

/-! ### The data rows of the wire formats -/

/-- The fields of an identifier in their places (R60). -/
theorem packedIdent_toNat (prio : BitVec 3) (edp dp : BitVec 1) (pf ps sa : Byte) :
    (prio ++ edp ++ dp ++ pf ++ ps ++ sa).toNat =
      prio.toNat * 2 ^ 26 + edp.toNat * 2 ^ 25 + dp.toNat * 2 ^ 24 + pf.toNat * 2 ^ 16 + ps.toNat * 2 ^ 8 + sa.toNat := by
  rw [append_toNat (prio ++ edp ++ dp ++ pf ++ ps) sa, append_toNat (prio ++ edp ++ dp ++ pf) ps,
    append_toNat (prio ++ edp ++ dp) pf, append_toNat (prio ++ edp) dp, append_toNat prio edp]
  ring

/-- The tag of a PDU2 format (R77). -/
theorem taggedPf_packedIdent {pf : Byte} (h : 240 ≤ pf.toNat) (prio : BitVec 3) (edp dp : BitVec 1) (ps sa : Byte) :
    (taggedPf (prio ++ edp ++ dp ++ pf ++ ps ++ sa)).toNat = 2 ^ 8 + pf.toNat := by
  have hpf : (prio ++ edp ++ dp ++ pf ++ ps ++ sa).toNat / 2 ^ 16 % 2 ^ 8 = pf.toNat := by
    rw [packedIdent_toNat]
    omega
  refine (taggedPf_toNat _).trans ?_
  rw [hpf, if_pos h]

/-- The wire bytes of a PGN whose third byte has no bits but the lowest two (R63). -/
theorem pgnFromLe_setWidth_toNat (b0 b1 : Byte) (hi : BitVec 2) :
    (pgnFromLe b0 b1 (hi.setWidth 8)).toNat = b0.toNat + b1.toNat * 2 ^ 8 + hi.toNat * 2 ^ 16 := by
  rw [pgnFromLe_toNat, BitVec.toNat_setWidth_of_le (by decide)]
  omega

/-- Settles O22: each row gives its value, as its core operation does. -/
theorem wireDataRowsAnswerTheirValue : Obligations.WireDataRowsAnswerTheirValue := by
  refine ⟨fun p e d pf ps sa s => ?_, fun p e d pf ps sa s hwf => ?_, fun b0 b1 hi s => ?_⟩
  · exact answers_of_give_field rfl (packedIdent_toNat p e d pf ps sa)
  · exact answers_of_give_toNat rfl (taggedPf_packedIdent (decide_eq_true_iff.mp hwf) p e d ps sa)
  · exact answers_of_give_field rfl (pgnFromLe_setWidth_toNat b0 b1 hi)

/-! ### Results of one operation as operands of another -/

theorem r0Of_of_answers {i : Instr} {s : State} {r : Response} (h : answers i s r) : r0Of i s = some r.r0 := by
  rw [r0Of, responseOf, h]
  rfl

/-- Settles O27: the word of each conversion, read back by the encoding and the value of the other (O26). -/
theorem pgnWireCodecRoundTrips : Obligations.PgnWireCodecRoundTrips := by
  obtain ⟨hToLe, hFromLe, hvalues⟩ := pgnWireCodecConverts
  intro s w2 w3 w4 w5
  obtain ⟨hto, hfrom⟩ := hvalues s
  refine ⟨fun p => ⟨_, _, r0Of_of_answers (hto p), hFromLe .., ?_⟩, fun b0 b1 b2 =>
    ⟨_, _, r0Of_of_answers (hfrom b0 b1 b2), hToLe .., ?_⟩⟩
  · have hp := p.isLt
    refine (r0Of_of_answers (hfrom ..)).trans (congrArg (some <| BitVec.ofNat 32 ·) ?_)
    simp only [BitVec.toNat_ofNat]
    omega
  · have h0 := b0.isLt
    have h1 := b1.isLt
    refine (r0Of_of_answers (hto _)).trans (congrArg (some <| BitVec.ofNat 32 ·) ?_)
    simp only [BitVec.toNat_ofNat]
    omega

/-! ### The builder's round trip -/

/-- The four register operations in a row leave their operands, and BLD.BUILD answers the identifier of them. -/
theorem runAll_buildOps (pgn : Pgn) (p sa da : Byte) (s : State) :
    runAll (buildOps pgn p sa da) s =
      .next ((s.setBuilder pgn (clampPrio p) sa da).answer ⟨0, (idBuild (clampPrio p) pgn sa da).setWidth 32, 0, 0⟩) := rfl

theorem clampPrio_toNat {p : Byte} (hp : p.toNat ≤ 7) : (clampPrio p).toNat = p.toNat := by
  rw [clampPrio, Config.prioMax, Nat.min_eq_left hp, BitVec.toNat_ofNat]
  omega

/-- A byte ORed into bits 15..8 of a number changes only these. -/
theorem or_byte_eq (t : Nat) (b : Byte) :
    t ||| b.toNat * 2 ^ 8 = t / 2 ^ 16 * 2 ^ 16 + (t / 2 ^ 8 % 2 ^ 8 ||| b.toNat) * 2 ^ 8 + t % 2 ^ 8 := by
  have hb := b.isLt
  have hhigh : (t ||| b.toNat * 2 ^ 8) / 2 ^ 16 = t / 2 ^ 16 := by
    rw [Nat.or_div_two_pow, show b.toNat * 2 ^ 8 / 2 ^ 16 = 0 by omega, Nat.or_zero]
  have hmid : (t ||| b.toNat * 2 ^ 8) / 2 ^ 8 % 2 ^ 8 = t / 2 ^ 8 % 2 ^ 8 ||| b.toNat := by
    rw [Nat.or_div_two_pow, Nat.mul_div_cancel _ (by decide), Nat.or_mod_two_pow, Nat.mod_eq_of_lt hb]
  have hlow : (t ||| b.toNat * 2 ^ 8) % 2 ^ 8 = t % 2 ^ 8 := by
    rw [Nat.or_mod_two_pow, Nat.mul_mod_left, Nat.or_zero]
  rw [← hhigh, ← hmid, ← hlow]
  omega

section
variable {prio : BitVec 3} {pgn : Pgn} {sa da : Byte}

/-- Under PDU1 the destination is ORed into the low byte of the PGN. -/
theorem idBuild_fields_pdu1 (h : pgn.toNat / 2 ^ 8 % 2 ^ 8 < 240) :
    let id := (idBuild prio pgn sa da).toNat
    id / 2 ^ 26 = prio.toNat ∧ id % 2 ^ 8 = sa.toNat ∧ id / 2 ^ 16 % 2 ^ 10 = pgn.toNat / 2 ^ 8 ∧
      id / 2 ^ 8 % 2 ^ 8 = (pgn.toNat % 2 ^ 8 ||| da.toNat) := by
  intro id
  have hsa := sa.isLt
  have hpgn := pgn.isLt
  have hor : (pgn.toNat % 2 ^ 8 ||| da.toNat) < 2 ^ 8 := Nat.or_lt_two_pow (Nat.mod_lt _ (by decide)) da.isLt
  have hps : (prio.toNat * 2 ^ 26 + pgn.toNat * 2 ^ 8 + sa.toNat) / 2 ^ 8 % 2 ^ 8 = pgn.toNat % 2 ^ 8 := by omega
  have hid : id = _ := (idBuild_toNat prio pgn sa da).trans ((if_pos (by omega)).trans (or_byte_eq _ da))
  rw [hps] at hid
  omega

/-- Under PDU2 the PGN is kept whole. -/
theorem idBuild_fields_pdu2 (h : 240 ≤ pgn.toNat / 2 ^ 8 % 2 ^ 8) :
    let id := (idBuild prio pgn sa da).toNat
    id / 2 ^ 26 = prio.toNat ∧ id % 2 ^ 8 = sa.toNat ∧ id / 2 ^ 8 % 2 ^ 18 = pgn.toNat := by
  intro id
  have hsa := sa.isLt
  have hpgn := pgn.isLt
  have hid : id = _ := (idBuild_toNat prio pgn sa da).trans (if_neg (by omega))
  omega

end

/-- What the accessors answer of an identifier, by its fields as arithmetic. -/
theorem accessors_r0Of (id : Ident) (s : State) :
    r0Of (.idPrio id) s = some (BitVec.ofNat 32 (id.toNat / 2 ^ 26)) ∧
    r0Of (.idSa id) s = some (BitVec.ofNat 32 (id.toNat % 2 ^ 8)) ∧
    (id.toNat / 2 ^ 16 % 2 ^ 8 < 240 →
      r0Of (.idPgn id) s = some (BitVec.ofNat 32 (id.toNat / 2 ^ 16 % 2 ^ 10 * 2 ^ 8)) ∧
      r0Of (.idDa id) s = some (BitVec.ofNat 32 (2 ^ 8 + id.toNat / 2 ^ 8 % 2 ^ 8))) ∧
    (240 ≤ id.toNat / 2 ^ 16 % 2 ^ 8 →
      r0Of (.idPgn id) s = some (BitVec.ofNat 32 (id.toNat / 2 ^ 8 % 2 ^ 18)) ∧
      r0Of (.idGe id) s = some (BitVec.ofNat 32 (2 ^ 8 + id.toNat / 2 ^ 8 % 2 ^ 8)) ∧
      r0Of (.idDa id) s = some 0) := by
  obtain ⟨_, _, _, _, hfields⟩ := idFieldsAreTheIdentifierBits
  obtain ⟨hprio, _, _, hsa⟩ := hfields id s
  have hpgn := r0Of_of_answers (idPgnIsTheRawPgn.2 id s)
  obtain ⟨hda, hge⟩ := idDaAndIdGeSplitByFormat.2.2 id s
  have hda := r0Of_of_answers hda
  have hge := r0Of_of_answers hge
  refine ⟨r0Of_of_answers hprio, r0Of_of_answers hsa, fun h => ?_, fun h => ?_⟩
  · rw [if_neg h.not_ge] at hpgn
    rw [if_pos h] at hda
    exact ⟨hpgn, hda⟩
  · rw [if_pos h] at hpgn hge
    rw [if_neg h.not_gt] at hda
    exact ⟨hpgn, hge, hda⟩

/-- Settles O25: the built identifier is known by its value, in the format of its PGN, and so is each accessor's answer. -/
theorem builderRoundTripsThroughAccessors : Obligations.BuilderRoundTripsThroughAccessors := by
  intro s pgn p sa da hp
  refine ⟨_, _, runAll_buildOps pgn p sa da s, rfl, ?_⟩
  intro id pf
  have hid : id = idBuild (clampPrio p) pgn sa da := by
    change BitVec.ofNat 29 (BitVec.setWidth 32 _).toNat = _
    rw [BitVec.toNat_setWidth_of_le (by decide), BitVec.ofNat_toNat, BitVec.setWidth_eq]
  generalize (s.setBuilder pgn (clampPrio p) sa da).answer _ = t
  obtain ⟨hPrio, hSa, hPdu1, hPdu2⟩ := accessors_r0Of id t
  rcases lt_or_ge (pf % 2 ^ 8) 240 with hf | hf
  · obtain ⟨hprio, hsa, hpgn, hps⟩ := idBuild_fields_pdu1 (prio := clampPrio p) (sa := sa) (da := da) hf
    rw [← hid] at hprio hsa hpgn hps
    obtain ⟨hPgn, hDa⟩ := hPdu1 (by omega)
    rw [hprio, clampPrio_toNat hp] at hPrio
    rw [hsa] at hSa
    rw [hpgn] at hPgn
    rw [hps] at hDa
    refine ⟨hPrio, hSa, fun _ hlow => ⟨?_, ?_⟩, fun h => absurd hf h.not_gt, fun _ _ => ⟨hPgn, hDa⟩⟩
    · rw [hPgn, show pgn.toNat / 2 ^ 8 * 2 ^ 8 = pgn.toNat by omega]
    · rw [hDa, hlow, Nat.zero_or]
  · obtain ⟨hprio, hsa, hpgn⟩ := idBuild_fields_pdu2 (prio := clampPrio p) (sa := sa) (da := da) hf
    rw [← hid] at hprio hsa hpgn
    obtain ⟨hPgn, hGe, hDa⟩ := hPdu2 (by omega)
    rw [hprio, clampPrio_toNat hp] at hPrio
    rw [hsa] at hSa
    rw [hpgn] at hPgn
    rw [show id.toNat / 2 ^ 8 % 2 ^ 8 = pgn.toNat % 2 ^ 8 by omega] at hGe
    exact ⟨hPrio, hSa, fun h => absurd h hf.not_gt, fun _ => ⟨hPgn, hGe, hDa⟩, fun h => absurd h hf.not_gt⟩

end Sys2Proof
end

section
/-! SUPPORT. Whole transfers (42_transport_sender.md R180, 43_transport_receiver.md R204): runs of operations, the frames that a
session emits one after the other, and the frames of a transfer fed one after the other. -/

namespace Sys2Proof

open Sys2Proof.Machine

/-! ### Runs -/

/-- One more operation after a run. -/
theorem runAll_concat {is : List Instr} {i : Instr} {s t : State} {res : Result} (h : runAll is s = .next t)
    (hi : exec i t = res) : runAll (is ++ [i]) s = res := by
  induction is generalizing s with
  | nil =>
    obtain rfl := Host.Outcome.next.inj h
    rw [List.nil_append, runAll, hi]
    cases res <;> rfl
  | cons j is ih =>
    rw [runAll] at h
    rw [List.cons_append, runAll]
    cases hj : exec j s with
    | next u => rw [hj] at h; exact ih h
    | fault f => rw [hj] at h; nomatch h
    | refused r => rw [hj] at h; nomatch h

/-! ### The frames of a transfer -/

/-- The identifier of a transport frame has its fields in their places. -/
theorem transportId_toNat (prio : BitVec 3) {pgn : Pgn} (hpgn : pgn.toNat ≤ 0xEC00) (da sa : Byte) :
    (transportId prio pgn da sa).toNat =
      prio.toNat * 2 ^ 26 + pgn.toNat * 2 ^ 8 + da.toNat * 2 ^ 8 + sa.toNat := by
  have hprio := prio.isLt
  have hda := da.isLt
  have hsa := sa.isLt
  rw [transportId, BitVec.toNat_ofNat, Nat.mod_eq_of_lt]
  omega

theorem transportId_setWidth (prio : BitVec 3) {pgn : Pgn} (hpgn : pgn.toNat ≤ 0xEC00) (da sa : Byte) :
    (transportId prio pgn da sa).setWidth 32 =
      BitVec.ofNat 32 (prio.toNat * 2 ^ 26 + pgn.toNat * 2 ^ 8 + da.toNat * 2 ^ 8 + sa.toNat) := by
  rw [← transportId_toNat prio hpgn, BitVec.ofNat_toNat]

/-- Its bits 25..16 are those of a PDU1 PGN. -/
theorem transportId_pgnBits (prio : BitVec 3) {pgn : Pgn} (hpgn : pgn.toNat ≤ 0xEC00) (hlow : pgn.toNat % 2 ^ 8 = 0)
    (da sa : Byte) : (transportId prio pgn da sa).toNat / 2 ^ 16 % 2 ^ 10 = pgn.toNat / 2 ^ 8 := by
  have hda := da.isLt
  have hsa := sa.isLt
  rw [transportId_toNat prio hpgn]
  omega

theorem transportId_sa (prio : BitVec 3) {pgn : Pgn} (hpgn : pgn.toNat ≤ 0xEC00) (da sa : Byte) :
    BitVec.ofNat 8 (transportId prio pgn da sa).toNat = sa := by
  have hsa := sa.isLt
  apply BitVec.eq_of_toNat_eq
  rw [transportId_toNat prio hpgn, BitVec.toNat_ofNat]
  omega

theorem bamBytes_length (total : Nat) (pgn : Pgn) : (bamBytes total pgn).length = 8 := rfl

theorem dtBytes_length (d : List Byte) (sq : Nat) : (dtBytes d sq).length = 8 := by
  simp [dtBytes]

theorem bamBytes_toNat {total : Nat} (h : total ≤ 1785) (pgn : Pgn) :
    (bamBytes total pgn).map BitVec.toNat = bamLayout total pgn := by
  have hpgn := pgn.isLt
  have hhigh : total / 256 % 2 ^ 8 = total / 2 ^ 8 := by omega
  have hcount : (total + 6) / 7 % 2 ^ 8 = (total + 6) / 7 := by omega
  have hpage : pgn.toNat / 2 ^ 16 % 2 ^ 8 = pgn.toNat / 2 ^ 16 := by omega
  simp only [bamBytes, List.map_cons, List.map_nil, BitVec.toNat_ofNat, hhigh, hcount, hpage]
  rfl

theorem payByte_frameWords {pay : List Byte} (h : pay.length = 8) (j : Nat) :
    payByte (frameWord0 pay) (frameWord1 pay) j = (pay.getD j 0).toNat := by
  rw [frameWord0_eq, frameWord1_eq h, payByte_payWords h]

section
variable {total : Nat} (h : total ≤ 1785) (pgn : Pgn)
include h

theorem payByte_bamBytes (j : Nat) :
    payByte (frameWord0 (bamBytes total pgn)) (frameWord1 (bamBytes total pgn)) j = (bamLayout total pgn).getD j 0 := by
  rw [payByte_frameWords (bamBytes_length total pgn), ← bamBytes_toNat h]
  exact (List.getD_map _ 0 BitVec.toNat).symm

theorem bamBytes_total : payByte (frameWord0 (bamBytes total pgn)) (frameWord1 (bamBytes total pgn)) 1 +
    2 ^ 8 * payByte (frameWord0 (bamBytes total pgn)) (frameWord1 (bamBytes total pgn)) 2 = total := by
  rw [payByte_bamBytes h, payByte_bamBytes h]
  exact Nat.mod_add_div total (2 ^ 8)

theorem bamBytes_pgn : payByte (frameWord0 (bamBytes total pgn)) (frameWord1 (bamBytes total pgn)) 5 +
    2 ^ 8 * payByte (frameWord0 (bamBytes total pgn)) (frameWord1 (bamBytes total pgn)) 6 +
    2 ^ 16 * payByte (frameWord0 (bamBytes total pgn)) (frameWord1 (bamBytes total pgn)) 7 = pgn.toNat := by
  rw [payByte_bamBytes h, payByte_bamBytes h, payByte_bamBytes h]
  change pgn.toNat % 2 ^ 8 + 2 ^ 8 * (pgn.toNat / 2 ^ 8 % 2 ^ 8) + 2 ^ 16 * (pgn.toNat / 2 ^ 16) = pgn.toNat
  omega

end

/-- Byte `i` of the chunk in frame `sq`. -/
theorem dtBytes_getD_succ (d : List Byte) (sq : Nat) {i : Nat} (hi : i < 7) :
    (dtBytes d sq).getD (i + 1) 0 = d.getD (7 * (sq - 1) + i) 0xFF := by
  rw [dtBytes, List.getD_cons_succ]
  simp [List.getD_eq_getElem?_getD, hi]

/-! ### What a session emits -/

/-- The bytes of a payload that lies in TXBUF. -/
def txPayload (s : State) (L : Nat) : List Byte := (List.range L).map (s.byteAt .txBuf)

theorem txPayload_getD (s : State) (L a : Nat) (b : Byte) :
    (txPayload s L).getD a b = if a < L then s.byteAt .txBuf a else b := by
  by_cases h : a < L <;> simp [txPayload, List.getD_eq_getElem?_getD, h]

/-- A session of a legal total over TXBUF emits the BAM frame of that total. -/
theorem bamPayload_eq_bamBytes {total : BitVec 11} (h : total.toNat ≤ 1785) (pgn : Pgn) :
    bamPayload total pgn = bamBytes total.toNat pgn :=
  List.map_injective_iff.mpr BitVec.toNat_injective ((bamPayload_toNat h pgn).trans (bamBytes_toNat h pgn).symm)

/-- The next DataTransfer frame of a session is the frame of its payload. -/
theorem nextDtPayload_eq_dtBytes (s : State) :
    nextDtPayload s = dtBytes (txPayload s s.txTotal.toNat) (s.txIdx.toNat + 1) := by
  refine List.ext_getElem (by rw [nextDtPayload_length, dtBytes_length]) fun j hj hj' => ?_
  rw [nextDtPayload_length] at hj
  rw [← List.getD_eq_getElem _ 0, ← List.getD_eq_getElem _ 0]
  cases j with
  | zero =>
    change s.txIdx + 1 = BitVec.ofNat 8 (s.txIdx.toNat + 1)
    rw [BitVec.ofNat_add, BitVec.ofNat_toNat, BitVec.setWidth_eq]
    rfl
  | succ i =>
    have hi : i < 7 := by omega
    apply BitVec.eq_of_toNat_eq
    rw [← payByte_payWords (nextDtPayload_length s), payByte_nextDtPayload_succ s hi, dtBytes_getD_succ _ _ hi,
      txPayload_getD, Nat.add_sub_cancel]
    split <;> rfl

/-- The session over `L` bytes of TXBUF, opened in `s`, after `j` DataTransfer frames at most. -/
def sessionAfter (s : State) (sa : Byte) (pgn : Pgn) (L j : Nat) : State :=
  { s with txState := .dataTransfer, txSa := sa, txPgn := pgn, txTotal := BitVec.ofNat 11 L,
           txIdx := BitVec.ofNat 8 (min j ((L + 6) / 7)) }

/-- The response that carries a frame of the session. -/
def frameAnswer (s : State) (sa : Byte) (pgn : Pgn) (pay : List Byte) : Response :=
  ⟨0x800, (transportId s.params.tpPriority pgn s.params.tpDa sa).setWidth 32, frameWord0 pay, frameWord1 pay⟩

/-- What TXS.NEXT number `j`, from 0, of that session answers. -/
def emittedAnswer (s : State) (sa : Byte) (pgn : Pgn) (L j : Nat) : Response :=
  if (L + 6) / 7 < j then ⟨5, 0, 0, 0⟩
  else frameAnswer s sa (if j = 0 then 0x0EC00 else 0x0EB00) (if j = 0 then bamBytes L pgn else dtBytes (txPayload s L) j)

/-- A frame given by a session that was opened in `s`, as `frameAnswer` has it. -/
theorem frameAnswer_eq {s u : State} (hparams : u.params = s.params) {pgn : Pgn} (hpgn : pgn.toNat ≤ 0xEC00)
    {pay : List Byte} (hpay : pay.length = 8) :
    frameAnswer s u.txSa pgn pay = ⟨0x800, BitVec.ofNat 32 (emittedId pgn u), payWord0 pay, payWord1 pay⟩ := by
  rw [frameAnswer, transportId_setWidth _ hpgn, frameWord0_eq, frameWord1_eq hpay, emittedId, hparams]

section
variable (s : State) (sa : Byte) (pgn : Pgn) {L : Nat} (hL : L ≤ 1785)
include hL

theorem ofNat_total_toNat : (BitVec.ofNat 11 L).toNat = L := by
  rw [BitVec.toNat_ofNat, Nat.mod_eq_of_lt (by omega)]

theorem packetCount_ofNat : packetCount (BitVec.ofNat 11 L) = (L + 6) / 7 := by
  rw [packetCount, ofNat_total_toNat hL]
  rfl

theorem sessionAfter_txIdx (j : Nat) : (sessionAfter s sa pgn L j).txIdx.toNat = min j ((L + 6) / 7) := by
  change (BitVec.ofNat 8 _).toNat = _
  rw [BitVec.toNat_ofNat, Nat.mod_eq_of_lt (by omega)]

/-- The first TXS.NEXT answers the BAM frame. -/
theorem exec_txsNext_opened :
    exec .txsNext (s.openTx sa pgn (BitVec.ofNat 11 L)) =
      .next ((sessionAfter s sa pgn L 0).answer (emittedAnswer s sa pgn L 0)) := by
  have ht := ofNat_total_toNat hL
  have hframe := frameAnswer_eq (s := s) (u := s.openTx sa pgn (BitVec.ofNat 11 L)) rfl (pgn := Config.pgnTpCm)
    (by decide) (bamBytes_length L pgn)
  rw [exec_txsNext_bam rfl, State.openTx_txTotal, State.openTx_txPgn, bamPayload_eq_bamBytes (ht.trans_le hL), ht,
    ← hframe, sessionAfter, Nat.zero_min, emittedAnswer, if_neg (Nat.not_lt_zero _), if_pos rfl, if_pos rfl]
  rfl

/-- While a frame is left, the next TXS.NEXT answers it. -/
theorem exec_txsNext_session_frame {j : Nat} (hj : j < (L + 6) / 7) :
    exec .txsNext (sessionAfter s sa pgn L j) =
      .next ((sessionAfter s sa pgn L (j + 1)).answer (emittedAnswer s sa pgn L (j + 1))) := by
  let u := sessionAfter s sa pgn L j
  have ht : u.txTotal.toNat = L := ofNat_total_toNat hL
  have hidx : u.txIdx.toNat = j := (sessionAfter_txIdx s sa pgn hL j).trans (Nat.min_eq_left hj.le)
  have hdata : exec .txsNext u = _ := exec_txsNext_data rfl (ht.trans_le hL)
    (hidx.trans_lt (hj.trans_eq (packetCount_ofNat hL).symm))
  have hframe : frameAnswer s sa 0x0EB00 (nextDtPayload u) = _ :=
    frameAnswer_eq (u := u) rfl (by decide) (nextDtPayload_length u)
  have hpay : nextDtPayload u = dtBytes (txPayload s L) (j + 1) := by
    rw [nextDtPayload_eq_dtBytes, hidx, ht]
    rfl
  have hnext : u.txIdx + 1 = (sessionAfter s sa pgn L (j + 1)).txIdx := by
    change BitVec.ofNat 8 _ + 1 = BitVec.ofNat 8 _
    rw [Nat.min_eq_left hj.le, Nat.min_eq_left hj]
    exact (BitVec.ofNat_add j 1).symm
  rw [hdata, hnext, emittedAnswer, if_neg (by omega), if_neg (by omega), if_neg (by omega), ← hpay, hframe]
  rfl

/-- When no frame is left, it answers EXHAUSTED. -/
theorem exec_txsNext_session_exhausted {j : Nat} (hj : (L + 6) / 7 ≤ j) :
    exec .txsNext (sessionAfter s sa pgn L j) =
      .next ((sessionAfter s sa pgn L (j + 1)).answer (emittedAnswer s sa pgn L (j + 1))) := by
  have hidx := (sessionAfter_txIdx s sa pgn hL j).trans (Nat.min_eq_right hj)
  have hcount : packetCount (sessionAfter s sa pgn L j).txTotal = _ := packetCount_ofNat hL
  have hsame : sessionAfter s sa pgn L (j + 1) = sessionAfter s sa pgn L j := by
    rw [sessionAfter, sessionAfter, Nat.min_eq_right hj, Nat.min_eq_right (by omega)]
  rw [hsame, emittedAnswer, if_pos (by omega)]
  exact execTxsNext_of_count_le rfl (hcount.trans_le hidx.ge)

/-- The answers of TXS.NEXT from the opening of the session on. -/
theorem runAll_txsOpen_txsNext {len : Word} (hlen : len.toNat = L) (j : Nat) :
    runAll (.txsOpen sa pgn len :: List.replicate (j + 1) .txsNext) s =
      .next ((sessionAfter s sa pgn L j).answer (emittedAnswer s sa pgn L j)) := by
  have hopen : exec (.txsOpen sa pgn len) s = .next ((s.openTx sa pgn (BitVec.ofNat 11 L)).answer ⟨0, 0, 0, 0⟩) :=
    hlen ▸ (txsOpenConstructsASession.2 sa pgn len s).2 (hlen.trans_le hL)
  induction j with
  | zero =>
    exact runAll_concat (runAll_concat (is := []) rfl hopen)
      ((exec_answer ..).trans (exec_txsNext_opened s sa pgn hL))
  | succ j ih =>
    rw [List.replicate_succ', ← List.cons_append]
    refine runAll_concat ih ((exec_answer ..).trans ?_)
    rcases lt_or_ge j ((L + 6) / 7) with hj | hj
    · exact exec_txsNext_session_frame s sa pgn hL hj
    · exact exec_txsNext_session_exhausted s sa pgn hL hj

end

/-- Settles O46, by induction on the number of TXS.NEXT. -/
theorem senderEmitsTheWholeTransfer : Obligations.SenderEmitsTheWholeTransfer := by
  intro s sa pgn len hlen L d j
  refine ⟨_, _, runAll_txsOpen_txsNext s sa pgn hlen rfl j, rfl, fun hj => if_pos hj, fun hj => ?_⟩
  rw [emittedAnswer, if_neg hj.not_gt]
  exact ⟨rfl, rfl, rfl, rfl⟩

/-! ### The wire rows of the two frames -/

/-- An identifier with a row's bits under the table's mask 0x03FF0000 has them in bits 25..16. -/
theorem pgnBits_of_and_mask {id p : Ident} (h : (id &&& 0x03FF0000#29 == p) = true) :
    id.toNat / 2 ^ 16 % 2 ^ 10 = (p.extractLsb' 16 10).toNat := by
  have hones : BitVec.extractLsb' 16 10 0x03FF0000#29 = BitVec.allOnes 10 := rfl
  rw [← beq_iff_eq.mp h, BitVec.extractLsb'_and, hones, BitVec.and_allOnes, extract_toNat]

section
variable (total : BitVec 16) (count : Byte) (pgn : Pgn)

theorem payByte_bamWords (j : Nat) : payByte (bamWord0 total count) (bamWord1 pgn) j =
    (([Config.tpBam, total.extractLsb' 0 8, total.extractLsb' 8 8, count, Config.tpPad] ++ pgnToLe pgn).getD j 0).toNat := by
  rw [← payloadBytes_getD, payloadBytes_bamWords]

theorem bamWords_total : payByte (bamWord0 total count) (bamWord1 pgn) 1 +
    2 ^ 8 * payByte (bamWord0 total count) (bamWord1 pgn) 2 = total.toNat := by
  have h := total.isLt
  rw [payByte_bamWords, payByte_bamWords]
  change (total.extractLsb' 0 8).toNat + 2 ^ 8 * (total.extractLsb' 8 8).toNat = _
  rw [extract_toNat, extract_toNat]
  omega

theorem bamWords_pgn : payByte (bamWord0 total count) (bamWord1 pgn) 5 +
    2 ^ 8 * payByte (bamWord0 total count) (bamWord1 pgn) 6 +
    2 ^ 16 * payByte (bamWord0 total count) (bamWord1 pgn) 7 = pgn.toNat := by
  have h := leValue_pgnToLe pgn
  rw [pgnToLe, leValue_cons, leValue_cons, leValue_cons, leValue_nil] at h
  rw [payByte_bamWords, payByte_bamWords, payByte_bamWords]
  change (pgn.extractLsb' 0 8).toNat + 2 ^ 8 * (pgn.extractLsb' 8 8).toNat +
    2 ^ 16 * ((pgn.extractLsb' 16 2).setWidth 8).toNat = _
  omega

end

theorem payByte_dtWords_zero (sq : Byte) (data : BitVec 56) : payByte (dtWord0 sq data) (dtWord1 data) 0 = sq.toNat := by
  rw [← payloadBytes_getD, payloadBytes_dtWords, List.getD_cons_zero]

theorem payByte_dtWords_succ (sq : Byte) (data : BitVec 56) {i : Nat} (hi : i < 7) :
    payByte (dtWord0 sq data) (dtWord1 data) (i + 1) = data.toNat / 2 ^ (8 * i) % 2 ^ 8 := by
  rw [← payloadBytes_getD, payloadBytes_dtWords, List.getD_cons_succ, ← extract_toNat]
  simp [List.getD_eq_getElem?_getD, Config.tpChunk, hi]

theorem ofNat_mod_two_pow (n x : Nat) : BitVec.ofNat n (x % 2 ^ n) = BitVec.ofNat n x := by
  apply BitVec.eq_of_toNat_eq
  rw [BitVec.toNat_ofNat, BitVec.toNat_ofNat, Nat.mod_mod]

theorem exec_tpCmBam_of_legal {id : Ident} (hid : id.toNat / 2 ^ 16 % 2 ^ 10 = 0xEC) {total : BitVec 16}
    (hle : total.toNat ≤ 1785) (count : Byte) (pgn : Pgn) (s : State) :
    exec (.tpCmBam id total count pgn) s =
      done (s.openRx (BitVec.ofNat 8 id.toNat) pgn (BitVec.ofNat 11 total.toNat)) := by
  have hopen := exec_rxsFeed_bam (len := 8) (bamWord0 total count) (bamWord1 pgn) s hid (by decide)
    (payByte_bamWords total count pgn 0)
  rw [bamWords_total, bamWords_pgn, BitVec.ofNat_toNat 18 pgn, BitVec.setWidth_eq] at hopen
  exact (exec_core ..).trans (hopen hle)

/-- Settles O53: each row is an RXS.FEED of length 8 with the payload words of its fields. -/
theorem wireFrameRowsAreReceivedFrames : Obligations.WireFrameRowsAreReceivedFrames := by
  refine ⟨fun id total count pgn s hwf hle => ?_, fun id sq data s hwf hsq hs => ?_⟩
  · exact ⟨_, exec_tpCmBam_of_legal (pgnBits_of_and_mask hwf) hle count pgn s, rfl, fun a =>
      (State.readByte_answer ..).trans (State.readByte_openRx ..)⟩
  · have hsq0 : payByte (dtWord0 sq data) (dtWord1 data) 0 ≠ 0 := by
      rw [payByte_dtWords_zero]
      exact fun h => hsq (BitVec.eq_of_toNat_eq h)
    obtain ⟨_, _, _, hstore⟩ :=
      fedDataFrameStoresItsChunk 8 id (dtWord0 sq data) (dtWord1 data) s (pgnBits_of_and_mask hwf)
    obtain ⟨t, hexec, ht, hread⟩ := hstore (by decide) hs hsq0
    rw [payByte_dtWords_zero] at ht hread
    refine ⟨t, (exec_core ..).trans hexec, ht, fun a => (hread a).trans (if_ctx_congr Iff.rfl (fun ha => ?_) fun _ => rfl)⟩
    rw [payByte_dtWords_succ sq data (by omega), ofNat_mod_two_pow]

/-! ### A transfer fed to the receiver -/

/-- The BAM frame of a transfer and its first `k` DataTransfer frames, each fed to the receiver. -/
def feedPrefix (prio : BitVec 3) (da sa : Byte) (pgn : Pgn) (d : List Byte) (k : Nat) : List Instr :=
  feedInstr (transportId prio 0x0EC00 da sa) (bamBytes d.length pgn) ::
    (List.range k).map (fun j => feedInstr (transportId prio 0x0EB00 da sa) (dtBytes d (j + 1)))

theorem feedTransfer_take (prio : BitVec 3) (da sa : Byte) (pgn : Pgn) (d : List Byte) {k : Nat}
    (hk : k ≤ (d.length + 6) / 7) :
    (feedTransfer prio da sa pgn d).take (k + 1) = feedPrefix prio da sa pgn d k := by
  rw [feedTransfer, feedPrefix, List.take_succ_cons, ← List.map_take, List.take_range, Nat.min_eq_left hk]

/-- The receiver holds the session of a transfer and the first `k` chunks of its payload. -/
structure Received (sa : Byte) (pgn : Pgn) (d : List Byte) (k : Nat) (t : State) : Prop where
  response : t.response = some ⟨0, 0, 0, 0⟩
  rxState : t.rxState = .dataTransfer
  rxSa : t.rxSa = sa
  rxPgn : t.rxPgn = pgn
  rxTotal : t.rxTotal.toNat = d.length
  rxLen : t.rxLen.toNat = min d.length (7 * k)
  readByte : ∀ a < 7 * k, ∀ h : a < d.length, t.readByte .rxBuf a = some d[a]

section
variable {prio : BitVec 3} {da sa : Byte} {pgn : Pgn} {d : List Byte} (hd : d.length ≤ 1785)
include hd

/-- The BAM frame opens the session of the transfer. -/
theorem exec_feed_bam (s : State) :
    ∃ t, exec (feedInstr (transportId prio 0x0EC00 da sa) (bamBytes d.length pgn)) s = .next t ∧ Received sa pgn d 0 t := by
  have hid := transportId_pgnBits prio (pgn := 0x0EC00) (by decide) (by decide) da sa
  have hopen := exec_rxsFeed_bam (len := 8) _ _ s hid (by decide) (payByte_bamBytes hd pgn 0)
  rw [bamBytes_total hd, bamBytes_pgn hd] at hopen
  exact ⟨_, hopen hd,
    { response := rfl
      rxState := rfl
      rxSa := transportId_sa prio (by decide) da sa
      rxPgn := (BitVec.ofNat_toNat 18 pgn).trans (BitVec.setWidth_eq pgn)
      rxTotal := ofNat_total_toNat hd
      rxLen := (Nat.min_zero _).symm
      readByte := fun a ha => absurd ha (Nat.not_lt_zero a) }⟩

/-- DataTransfer frame `k + 1` stores the next chunk. -/
theorem exec_feed_data {k : Nat} (hk : k < (d.length + 6) / 7) {s : State} (hs : Received sa pgn d k s) :
    ∃ t, exec (feedInstr (transportId prio 0x0EB00 da sa) (dtBytes d (k + 1))) s = .next t ∧
      Received sa pgn d (k + 1) t := by
  have hid := transportId_pgnBits prio (pgn := 0x0EB00) (by decide) (by decide) da sa
  have hsq : payByte (frameWord0 (dtBytes d (k + 1))) (frameWord1 (dtBytes d (k + 1))) 0 = k + 1 := by
    rw [payByte_frameWords (dtBytes_length ..)]
    change (BitVec.ofNat 8 (k + 1)).toNat = _
    rw [BitVec.toNat_ofNat, Nat.mod_eq_of_lt (by omega)]
  obtain ⟨_, _, _, hstore⟩ := fedDataFrameStoresItsChunk 8 _ (frameWord0 (dtBytes d (k + 1)))
    (frameWord1 (dtBytes d (k + 1))) s hid
  obtain ⟨t, hexec, ht, hread⟩ := hstore (by decide) hs.rxState (by omega)
  rw [hsq, Nat.add_sub_cancel, hs.rxTotal] at ht hread
  exact ⟨t, hexec,
    { response := congrArg State.response ht
      rxState := (congrArg State.rxState ht).trans hs.rxState
      rxSa := (congrArg State.rxSa ht).trans hs.rxSa
      rxPgn := (congrArg State.rxPgn ht).trans hs.rxPgn
      rxTotal := (congrArg (BitVec.toNat ∘ State.rxTotal) ht).trans hs.rxTotal
      rxLen := by
        rw [ht, ofNat_total_toNat ((Nat.min_le_left _ _).trans hd)]
        change min d.length (k * 7 + (8 - 1)) = _
        omega
      readByte := fun a ha h => by
        rw [hread]
        change (if k * 7 ≤ a ∧ a < k * 7 + 7 ∧ a < d.length then _ else _) = _
        split
        next hin =>
          rw [payByte_frameWords (dtBytes_length ..), dtBytes_getD_succ d _ (by omega), BitVec.ofNat_toNat,
            BitVec.setWidth_eq, show 7 * (k + 1 - 1) + (a - k * 7) = a by omega, List.getD_eq_getElem _ _ h]
        next hout => exact hs.readByte a (by omega) h }⟩

theorem runAll_feedPrefix (s : State) {k : Nat} (hk : k ≤ (d.length + 6) / 7) :
    ∃ t, runAll (feedPrefix prio da sa pgn d k) s = .next t ∧ Received sa pgn d k t := by
  induction k with
  | zero =>
    obtain ⟨t, hbam, ht⟩ := exec_feed_bam (prio := prio) (da := da) (sa := sa) (pgn := pgn) hd s
    exact ⟨t, runAll_concat (is := []) rfl hbam, ht⟩
  | succ k ih =>
    obtain ⟨u, hrun, hu⟩ := ih (by omega)
    obtain ⟨t, hdata, ht⟩ := exec_feed_data (prio := prio) (da := da) hd hk hu
    refine ⟨t, ?_, ht⟩
    rw [feedPrefix, List.range_succ, List.map_append, ← List.cons_append]
    exact runAll_concat hrun hdata

end

/-- Settles O52, by induction on the number of DataTransfer frames fed. -/
theorem fedTransferIsReassembled : Obligations.FedTransferIsReassembled := by
  intro s prio da sa pgn d hd
  have hlength : (feedTransfer prio da sa pgn d).length = (d.length + 6) / 7 + 1 := by
    simp [feedTransfer]
  refine ⟨fun k hk => ?_, ?_⟩
  · rw [hlength] at hk
    rw [feedTransfer_take prio da sa pgn d (by omega)]
    obtain ⟨t, hrun, ht⟩ := runAll_feedPrefix hd s (k := k) (by omega)
    exact ⟨t, hrun, ht.response⟩
  · obtain ⟨t, hrun, ht⟩ := runAll_feedPrefix (prio := prio) (da := da) (sa := sa) (pgn := pgn) hd s le_rfl
    exact ⟨t, hrun, ht.rxState, ht.rxSa, ht.rxPgn, ht.rxTotal, ht.rxLen.trans (by omega), fun a ha =>
      ht.readByte a (by omega) ha⟩

end Sys2Proof
end

section
/-! SUPPORT. binary32 (41_slot.md section 1): patterns and the numbers they stand for, rounding to nearest, the exact result that
each operation rounds, and the conversion to a raw integer. -/

namespace Sys2Proof

open Sys2Proof.Machine

/-! ### Patterns -/

section
variable (w : Word)

/-- The three fields of a pattern add up to it. -/
theorem f32Fields_add : f32SignBits (decide (2 ^ 31 ≤ w.toNat)) + w.toNat / 2 ^ 23 % 256 * 2 ^ 23 + w.toNat % 2 ^ 23 =
    w.toNat := by
  have hw := w.isLt
  by_cases h : 2 ^ 31 ≤ w.toNat
  · rw [decide_eq_true h, f32SignBits, if_pos rfl]
    omega
  · rw [decide_eq_false h, f32SignBits, if_neg Bool.false_ne_true]
    omega

theorem f32ToBits_f32OfBits (h : ¬ nanPattern w) : f32ToBits (f32OfBits w) = w := by
  have hfields := f32Fields_add w
  have hfr : w.toNat % 2 ^ 23 < 2 ^ 23 := Nat.mod_lt _ (by decide)
  rw [f32OfBits_eq]
  apply BitVec.eq_of_toNat_eq
  have hw := w.isLt
  split_ifs with hex hzero hsub
  · rw [f32ToBits, BitVec.toNat_ofNat]
    omega
  · exact absurd ⟨hex, hzero⟩ h
  · rw [f32ToBits, BitVec.toNat_ofNat, neg_add_cancel, Int.toNat_zero]
    omega
  · rw [f32ToBits, BitVec.toNat_ofNat]
    omega

end

/-- Settles O35: the meaning of a pattern by its fields, which add up to it again. -/
theorem binary32PatternsRoundTrip : Obligations.Binary32PatternsRoundTrip := by
  intro w ex fr neg
  have hw : f32OfBits w = if ex = 255 then (if fr = 0 then .inf neg else .nan)
      else if ex = 0 then .fin neg fr (-149) else .fin neg (2 ^ 23 + fr) ((ex : Int) - 150) := f32OfBits_eq w
  refine ⟨fun hex hfr => ?_, fun hex hfr => ?_, fun hex => ?_, fun h0 h255 => ?_, f32ToBits_f32OfBits w⟩
  · rw [hw, if_pos hex, if_pos hfr]
  · rw [hw, if_pos hex, if_neg hfr]
  · rw [hw, if_neg (by rw [hex]; decide), if_pos hex]
  · rw [hw, if_neg h255, if_neg h0]

/-! ### Exact values -/

/-- A power of two as a fraction. -/
theorem two_zpow_eq_div (e : Int) : (2 : ℚ) ^ e = 2 ^ e.toNat / 2 ^ (-e).toNat := by
  rw [eq_div_iff (by positivity), ← zpow_natCast, ← zpow_natCast, ← zpow_add₀ (by norm_num)]
  congr 1
  omega

/-- The fraction that stands for `m · 2^e`. -/
theorem natCast_mul_two_zpow (m : Nat) (e : Int) :
    ((m * 2 ^ e.toNat : Nat) : ℚ) / ((2 ^ (-e).toNat : Nat) : ℚ) = m * (2 : ℚ) ^ e := by
  rw [two_zpow_eq_div]
  push_cast
  ring

theorem f32Rat_false (m : Nat) (e : Int) : f32Rat false m e = m * (2 : ℚ) ^ e := by
  rw [f32Rat, if_neg Bool.false_ne_true, one_mul]

theorem f32Rat_true (m : Nat) (e : Int) : f32Rat true m e = -(m * (2 : ℚ) ^ e) := by
  rw [f32Rat, if_pos rfl, neg_one_mul, neg_mul]

theorem f32Rat_not (neg : Bool) (m : Nat) (e : Int) : f32Rat (!neg) m e = -f32Rat neg m e := by
  cases neg
  · rw [Bool.not_false, f32Rat_true, f32Rat_false]
  · rw [Bool.not_true, f32Rat_true, f32Rat_false, neg_neg]

/-! ### Conversion to a raw integer -/

/-- Truncation of a number toward zero: the floor of its magnitude with its sign. -/
theorem truncate_f32Rat (neg : Bool) (m : Nat) (e : Int) :
    (if f32Rat neg m e < 0 then ⌈f32Rat neg m e⌉ else ⌊f32Rat neg m e⌋) =
      (if neg then -1 else 1) * ((m * 2 ^ e.toNat / 2 ^ (-e).toNat : Nat) : Int) := by
  have hfloor : ⌊(m : ℚ) * (2 : ℚ) ^ e⌋ = ((m * 2 ^ e.toNat / 2 ^ (-e).toNat : Nat) : Int) := by
    rw [← natCast_mul_two_zpow, Rat.floor_natCast_div_natCast, Int.natCast_div]
  have hnonneg : 0 ≤ (m : ℚ) * (2 : ℚ) ^ e := by positivity
  cases neg
  · rw [f32Rat_false, if_neg hnonneg.not_gt, hfloor, if_neg Bool.false_ne_true, one_mul]
  · rw [f32Rat_true, if_pos rfl, neg_one_mul, ← hfloor]
    split
    next => exact Int.ceil_neg
    next h =>
      have hzero : (m : ℚ) * (2 : ℚ) ^ e = 0 := le_antisymm (by linarith) hnonneg
      rw [hzero, neg_zero, Int.floor_zero, neg_zero]

theorem f32ToInt_fin (lo hi : Int) (hle : lo ≤ hi) (neg : Bool) (m : Nat) (e : Int) :
    f32ToInt lo hi (.fin neg m e) =
      max lo (min hi (if f32Rat neg m e < 0 then ⌈f32Rat neg m e⌉ else ⌊f32Rat neg m e⌋)) := by
  rw [truncate_f32Rat, f32ToInt]
  generalize (if neg then -1 else 1) * ((m * 2 ^ e.toNat / 2 ^ (-e).toNat : Nat) : Int) = t
  split_ifs with h1 h2 <;> omega

section
variable (t : RawType)

theorem Machine.RawType.lo_eq : t.lo = if t.signed = true then -2 ^ (t.bits - 1) else 0 := by
  rw [RawType.lo, Nat.cast_pow, Nat.cast_ofNat]

theorem Machine.RawType.hi_eq : t.hi = if t.signed = true then 2 ^ (t.bits - 1) - 1 else 2 ^ t.bits - 1 := by
  rw [RawType.hi, Nat.cast_pow, Nat.cast_pow, Nat.cast_ofNat]

theorem Machine.RawType.lo_le_hi : t.lo ≤ t.hi := by
  cases t <;> decide

theorem Machine.RawType.pattern_toNat (n : Int) : ((t.pattern n).toNat : Int) = n % 2 ^ t.bits := by
  have h0 : 0 ≤ n % (2 ^ t.bits : Int) := Int.emod_nonneg n (by positivity)
  have hlt : n % (2 ^ t.bits : Int) < 2 ^ t.bits := Int.emod_lt_of_pos n (by positivity)
  have hbits : (2 : Int) ^ t.bits ≤ 2 ^ 32 := by cases t <;> decide
  rw [RawType.pattern_eq, BitVec.toNat_ofNat, Nat.mod_eq_of_lt (by omega), Int.toNat_of_nonneg h0]

end

/-- Settles O34: the truncated magnitude between the bounds of the type, and its residue as the pattern. -/
theorem floatToIntTruncatesAndSaturates : Obligations.FloatToIntTruncatesAndSaturates := by
  intro t lo hi
  have hlo : t.lo = lo := t.lo_eq
  have hhi : t.hi = hi := t.hi_eq
  rw [← hlo, ← hhi]
  exact ⟨f32ToInt_fin t.lo t.hi t.lo_le_hi, rfl, rfl, t.pattern_toNat⟩

/-! ### Rounding to nearest -/

/-- `m · 2^e` is the number that a positive `x` rounds to when the exponent has no upper bound: normalised, within half a
unit of `x` and even on a tie. Below a power of two, where the next number is half a unit away, it is within a quarter. -/
structure RoundsTo (x : ℚ) (m : Nat) (e : Int) : Prop where
  least_le : -149 ≤ e
  lt : m < 2 ^ 24
  normal : 2 ^ 23 ≤ m ∨ e = -149
  near : |x - m * (2 : ℚ) ^ e| ≤ (2 : ℚ) ^ e / 2
  even : |x - m * (2 : ℚ) ^ e| = (2 : ℚ) ^ e / 2 → m % 2 = 0
  near_below : m = 2 ^ 23 → -149 < e → m * (2 : ℚ) ^ e - x ≤ (2 : ℚ) ^ e / 4

/-- The integer nearest to a fraction, as numbers. -/
theorem roundHalfEven_near (N : Nat) {D : Nat} (hD : 0 < D) :
    |(N : ℚ) / D - roundHalfEven N D| ≤ 1 / 2 ∧
    (|(N : ℚ) / D - roundHalfEven N D| = 1 / 2 → roundHalfEven N D % 2 = 0) := by
  obtain ⟨hlow, hhigh, htie⟩ := roundHalfEven_spec N hD
  generalize roundHalfEven N D = q at *
  have hD' : (0 : ℚ) < D := Nat.cast_pos.mpr hD
  have hN : (N : ℚ) = (N : ℚ) / D * D := (div_mul_cancel₀ _ hD'.ne').symm
  generalize (N : ℚ) / D = y at *
  have hlow' : 2 * (q : ℚ) * D ≤ 2 * N + D := by exact_mod_cast hlow
  have hhigh' : 2 * (N : ℚ) ≤ 2 * q * D + D := by exact_mod_cast hhigh
  refine ⟨abs_le.mpr ⟨?_, ?_⟩, fun h => htie ?_⟩
  · exact le_of_mul_le_mul_right (by linarith) hD'
  · exact le_of_mul_le_mul_right (by linarith) hD'
  · rcases (abs_eq (by norm_num)).mp h with h | h
    · refine .inr ?_
      have : 2 * (N : ℚ) = 2 * q * D + D := by rw [hN, sub_eq_iff_eq_add.mp h]; ring
      exact_mod_cast this
    · refine .inl ?_
      have : 2 * (q : ℚ) * D = 2 * N + D := by rw [hN, sub_eq_iff_eq_add.mp h]; ring
      exact_mod_cast this

/-- The fraction whose nearest integer is the significand, in units of the quantum. -/
theorem div_eq_scaled_mul (n d : Nat) (e : Int) :
    (n : ℚ) / d = ((n * 2 ^ (-e).toNat : Nat) : ℚ) / ((d * 2 ^ e.toNat : Nat) : ℚ) * 2 ^ e := by
  rw [two_zpow_eq_div]
  push_cast
  field_simp

section
variable {x y : ℚ} {m : Nat} {e : Int}

/-- A significand below `2^24` that needs no carry. -/
theorem RoundsTo.of_scaled (hx : x = y * 2 ^ e) (he : -149 ≤ e) (hm : m < 2 ^ 24) (hy : e = -149 ∨ 2 ^ 23 ≤ y)
    (hnear : |y - m| ≤ 1 / 2) (heven : |y - m| = 1 / 2 → m % 2 = 0) : RoundsTo x m e := by
  have hu : (0 : ℚ) < 2 ^ e := by positivity
  have habs : |x - m * (2 : ℚ) ^ e| = |y - m| * 2 ^ e := by rw [hx, ← sub_mul, abs_mul, abs_of_pos hu]
  refine ⟨he, hm, hy.symm.imp_left fun h => ?_, ?_, fun h => heven ?_, fun h he' => ?_⟩
  · have hlow := (abs_le.mp hnear).2
    have hlt : ((2 ^ 23 : Nat) : ℚ) < (m + 1 : Nat) := by
      push_cast
      linarith
    exact Nat.le_of_lt_succ (Nat.cast_lt.mp hlt)
  · rw [habs, div_eq_inv_mul]
    gcongr
    linarith
  · rw [habs] at h
    exact mul_right_cancel₀ hu.ne' (by linarith)
  · have hy' : (m : ℚ) ≤ y := by
      rw [h]
      exact_mod_cast hy.resolve_left (by omega)
    have := mul_le_mul_of_nonneg_right hy' hu.le
    linarith

/-- The carry out of 24 bits. -/
theorem RoundsTo.of_carry (hx : x = y * 2 ^ e) (he : -149 ≤ e) (hnear : |y - (2 ^ 24 : Nat)| ≤ 1 / 2) :
    RoundsTo x (2 ^ 23) (e + 1) := by
  have hu : (0 : ℚ) < 2 ^ e := by positivity
  have hsucc : (2 : ℚ) ^ (e + 1) = 2 * 2 ^ e := by rw [zpow_add_one₀ (by norm_num), mul_comm]
  have hsub : x - ((2 ^ 23 : Nat) : ℚ) * 2 ^ (e + 1) = (y - (2 ^ 24 : Nat)) * 2 ^ e := by
    rw [hx, hsucc]
    push_cast
    ring
  obtain ⟨hlow, hhigh⟩ := abs_le.mp hnear
  have hlow' := mul_le_mul_of_nonneg_right hlow hu.le
  have hhigh' := mul_le_mul_of_nonneg_right hhigh hu.le
  refine ⟨by omega, by norm_num, .inl le_rfl, ?_, fun _ => by norm_num, fun _ _ => ?_⟩
  · rw [hsub, hsucc]
    exact abs_le.mpr ⟨by linarith, by linarith⟩
  · rw [← neg_sub, hsub, hsucc]
    linarith

end

/-- Rounding a positive fraction: the nearest number, and the infinity when its exponent is out of range. -/
theorem f32Round_roundsTo (neg : Bool) {n d : Nat} (hn : 0 < n) (hd : 0 < d) :
    ∃ (m : Nat) (e : Int), RoundsTo ((n : ℚ) / d) m e ∧
      f32Round neg n d = if 104 < e then .inf neg else .fin neg m e := by
  obtain ⟨he, hlt, hnormal⟩ := f32Quantum_spec hn hd
  rw [f32Round, if_neg hn.ne']
  simp only
  generalize f32Quantum n d = e at *
  have hx := div_eq_scaled_mul n d e
  obtain ⟨hnear, heven⟩ := roundHalfEven_near (n * 2 ^ (-e).toNat) (D := d * 2 ^ e.toNat) (by positivity)
  generalize roundHalfEven (n * 2 ^ (-e).toNat) (d * 2 ^ e.toNat) = q at *
  generalize ((n * 2 ^ (-e).toNat : Nat) : ℚ) / ((d * 2 ^ e.toNat : Nat) : ℚ) = y at *
  have hu : (0 : ℚ) < 2 ^ e := by positivity
  have hy : y < 2 ^ 24 := by
    rw [hx, add_comm, zpow_add₀ (by norm_num)] at hlt
    exact lt_of_mul_lt_mul_right hlt hu.le
  have hy' : e = -149 ∨ 2 ^ 23 ≤ y := hnormal.imp_right fun h => by
    rw [hx, add_comm, zpow_add₀ (by norm_num)] at h
    exact le_of_mul_le_mul_right h hu
  have hq : q ≤ 2 ^ 24 := by
    have hlow := (abs_le.mp hnear).1
    have hlt : (q : ℚ) < ((2 ^ 24 + 1 : Nat) : ℚ) := by
      push_cast
      linarith
    exact Nat.le_of_lt_succ (Nat.cast_lt.mp hlt)
  by_cases hcarry : q = 2 ^ 24
  · subst hcarry
    refine ⟨2 ^ 23, e + 1, .of_carry hx he hnear, ?_⟩
    rw [f32Pack, if_pos rfl]
    exact if_congr (by omega) rfl rfl
  · exact ⟨q, e, .of_scaled hx he (by omega) hy' hnear heven, if_neg hcarry⟩

section
variable {x : ℚ} {m : Nat} {e : Int}

/-- The exponent is out of range exactly from the midpoint beyond the greatest finite number on. -/
theorem RoundsTo.exp_le_iff (h : RoundsTo x m e) : e ≤ 104 ↔ x < 2 ^ 128 - 2 ^ 103 := by
  obtain ⟨-, hlt, hnormal, hnear, heven, hbelow⟩ := h
  have hu : (0 : ℚ) < 2 ^ e := by positivity
  obtain ⟨hlow, hhigh⟩ := abs_le.mp hnear
  constructor
  · intro he
    have hpow : (2 : ℚ) ^ e ≤ 2 ^ (104 : Int) := zpow_le_zpow_right₀ (by norm_num) he
    rw [show (2 : ℚ) ^ (104 : Int) = 2 ^ 104 by norm_cast] at hpow
    have hodd : m = 2 ^ 24 - 1 → x - m * (2 : ℚ) ^ e < 2 ^ e / 2 := fun hm =>
      (le_abs_self _).trans_lt (hnear.lt_of_ne fun htie => by have := heven htie; omega)
    rcases (show m ≤ 2 ^ 24 - 2 ∨ m = 2 ^ 24 - 1 by omega) with hm | hm
    · have hm' : (m : ℚ) ≤ ((2 ^ 24 - 2 : Nat) : ℚ) := Nat.cast_le.mpr hm
      have := mul_le_mul_of_nonneg_right hm' hu.le
      norm_num at *
      linarith
    · have := hodd hm
      subst hm
      norm_num at *
      linarith
  · intro hx
    by_contra he
    have hm : 2 ^ 23 ≤ m := hnormal.resolve_right (by omega)
    have hpow : (2 : ℚ) ^ (105 : Int) ≤ 2 ^ e := zpow_le_zpow_right₀ (by norm_num) (by omega)
    rw [show (2 : ℚ) ^ (105 : Int) = 2 ^ 105 by norm_cast] at hpow
    rcases hm.eq_or_lt with hm | hm
    · have := hbelow hm.symm (by omega)
      subst hm
      norm_num at *
      linarith
    · have hm' : ((2 ^ 23 + 1 : Nat) : ℚ) ≤ m := Nat.cast_le.mpr hm
      have := mul_le_mul_of_nonneg_right hm' hu.le
      norm_num at *
      linarith

end

section
variable (neg : Bool) {n d : Nat} (hn : 0 < n) (hd : 0 < d)
include hn hd

theorem f32Round_of_lt (hx : (n : ℚ) / d < 2 ^ 128 - 2 ^ 103) :
    ∃ (m : Nat) (e : Int), RoundsTo ((n : ℚ) / d) m e ∧ e ≤ 104 ∧ f32Round neg n d = .fin neg m e := by
  obtain ⟨m, e, hround, heq⟩ := f32Round_roundsTo neg hn hd
  have he := hround.exp_le_iff.mpr hx
  exact ⟨m, e, hround, he, heq.trans (if_neg he.not_gt)⟩

theorem f32Round_of_ge (hx : 2 ^ 128 - 2 ^ 103 ≤ (n : ℚ) / d) : f32Round neg n d = .inf neg := by
  obtain ⟨m, e, hround, heq⟩ := f32Round_roundsTo neg hn hd
  exact heq.trans (if_pos (not_le.mp (mt hround.exp_le_iff.mp hx.not_gt)))

end

theorem f32Round_zero (neg : Bool) (d : Nat) : f32Round neg 0 d = .fin neg 0 (-149) := rfl

/-- Settles O31: a positive fraction rounds to the nearest number, whose exponent is in range below the overflow threshold. -/
theorem roundingIsToNearestEven : Obligations.RoundingIsToNearestEven := by
  refine ⟨f32Round_zero, fun neg n d hn hd => ⟨fun hx => ?_, f32Round_of_ge neg hn hd⟩⟩
  obtain ⟨m, e, hround, he, heq⟩ := f32Round_of_lt neg hn hd hx
  exact ⟨m, e, heq, hround.least_le, he, hround.lt, hround.normal, hround.near, hround.even, hround.near_below⟩

end Sys2Proof
end

section
/-! SUPPORT. The operations on binary32 numbers (41_slot.md section 1): the exact result of each, rounded once. -/

namespace Sys2Proof

open Sys2Proof.Machine

/-! ### Product and quotient -/

/-- The fraction that the product of two numbers rounds. -/
theorem f32Mul_fraction (m n : Nat) (e f : Int) :
    ((m * n * 2 ^ (e + f).toNat : Nat) : ℚ) / ((2 ^ (-(e + f)).toNat : Nat) : ℚ) =
      f32Rat false m e * f32Rat false n f := by
  rw [natCast_mul_two_zpow, f32Rat_false, f32Rat_false, zpow_add₀ (by norm_num)]
  push_cast
  ring

/-- The fraction that the quotient of two numbers rounds. -/
theorem f32Div_fraction (m : Nat) {n : Nat} (hn : n ≠ 0) (e f : Int) :
    ((m * 2 ^ (e - f).toNat : Nat) : ℚ) / ((n * 2 ^ (-(e - f)).toNat : Nat) : ℚ) =
      f32Rat false m e / f32Rat false n f := by
  have hn' : (n : ℚ) ≠ 0 := Nat.cast_ne_zero.mpr hn
  rw [Nat.cast_mul n, mul_comm (n : ℚ), ← div_div, natCast_mul_two_zpow, f32Rat_false, f32Rat_false,
    zpow_sub₀ (by norm_num)]
  field_simp

/-! ### Sum and difference -/

section
variable (s t : Bool) (m n : Nat) (e f : Int)

/-- The two operands in units of the lesser exponent add up to the exact sum. -/
theorem f32Scaled_add_cast :
    ((f32Scaled s m e (min e f) + f32Scaled t n f (min e f) : Int) : ℚ) * 2 ^ (min e f) =
      f32Rat s m e + f32Rat t n f := by
  rw [Int.cast_add, add_mul, f32Scaled_cast s m (min_le_left e f), f32Scaled_cast t n (min_le_right e f)]

theorem f32Add_of_zero (h : f32Rat s m e + f32Rat t n f = 0) :
    f32Add (.fin s m e) (.fin t n f) = .fin (s && t) 0 (-149) := by
  rw [← f32Scaled_add_cast] at h
  exact if_pos (Int.cast_eq_zero.mp ((mul_eq_zero_iff_right (by positivity)).mp h))

theorem f32Add_of_ne_zero (h : f32Rat s m e + f32Rat t n f ≠ 0) :
    ∃ N D : Nat, 0 < D ∧ (N : ℚ) / D = |f32Rat s m e + f32Rat t n f| ∧
      f32Add (.fin s m e) (.fin t n f) = f32Round (f32Rat s m e + f32Rat t n f < 0) N D := by
  rw [f32Add]
  rw [← f32Scaled_add_cast] at h ⊢
  generalize f32Scaled s m e (min e f) + f32Scaled t n f (min e f) = v at *
  have hu : (0 : ℚ) < 2 ^ min e f := by positivity
  refine ⟨v.natAbs * 2 ^ (min e f).toNat, 2 ^ (-min e f).toNat, by positivity, ?_, ?_⟩
  · rw [natCast_mul_two_zpow, abs_mul, abs_of_pos hu, Nat.cast_natAbs, Int.cast_abs]
  · have hv : v ≠ 0 := fun h0 => h (by rw [h0, Int.cast_zero, zero_mul])
    have hneg : (v : ℚ) * 2 ^ min e f < 0 ↔ v < 0 := by
      rw [← zero_mul ((2 : ℚ) ^ min e f), mul_lt_mul_iff_left₀ hu, Int.cast_lt_zero]
    rw [if_neg hv, decide_eq_decide.mpr hneg]

theorem f32Sub_fin : f32Sub (.fin s m e) (.fin t n f) = f32Add (.fin s m e) (.fin (!t) n f) := rfl

theorem f32Rat_add_not : f32Rat s m e + f32Rat (!t) n f = f32Rat s m e - f32Rat t n f := by
  rw [f32Rat_not, sub_eq_add_neg]

end

/-! ### Special operands -/

section
variable (a : F32) (s t : Bool)

theorem f32Mul_nan_right : f32Mul a .nan = .nan := by
  cases a <;> rfl

theorem f32Add_nan_right : f32Add a .nan = .nan := by
  cases a <;> rfl

theorem f32Sub_nan_left : f32Sub .nan a = .nan := by
  cases a <;> rfl

theorem f32Div_nan_right : f32Div a .nan = .nan := by
  cases a <;> rfl

theorem f32Sub_inf_inf : f32Sub (.inf s) (.inf t) = if s = t then .nan else .inf s := by
  cases s <;> cases t <;> rfl

end

/-! ### Integers -/

section
variable {k m : Nat} {e : Int} (h : RoundsTo k m e)
include h

/-- With no bits below its units an integer is a multiple of the last place, so it rounds to itself. -/
theorem RoundsTo.eq_of_exp_nonpos (he : e ≤ 0) : (m : ℚ) * 2 ^ e = k := by
  have hu : (0 : ℚ) < 2 ^ e := by positivity
  obtain ⟨hlow, hhigh⟩ := abs_le.mp h.near
  have hone : (2 : ℚ) ^ (-e).toNat * 2 ^ e = 1 := by
    rw [← zpow_natCast, ← zpow_add₀ (by norm_num), Int.toNat_of_nonneg (by omega), neg_add_cancel, zpow_zero]
  have hk : (k : ℚ) = ((k * 2 ^ (-e).toNat : Nat) : ℚ) * 2 ^ e := by
    rw [Nat.cast_mul, mul_assoc, Nat.cast_pow, Nat.cast_ofNat, hone, mul_one]
  rw [hk] at hlow hhigh ⊢
  generalize k * 2 ^ (-e).toNat = j at *
  have hle : (m : ℚ) < (j + 1 : Nat) := lt_of_mul_lt_mul_right (by push_cast; linarith) hu.le
  have hge : (j : ℚ) < (m + 1 : Nat) := lt_of_mul_lt_mul_right (by push_cast; linarith) hu.le
  rw [(Nat.le_of_lt_succ (Nat.cast_lt.mp hle)).antisymm (Nat.le_of_lt_succ (Nat.cast_lt.mp hge))]

/-- The only significand and exponent with a last place above the units that an integer of at most 24 bits rounds to. -/
theorem RoundsTo.eq_of_exp_pos (he : 0 < e) (hk : k ≤ 2 ^ 24) : m = 2 ^ 23 ∧ e = 1 := by
  have hu : (0 : ℚ) < 2 ^ e := by positivity
  have hk' : (k : ℚ) ≤ 16777216 := by exact_mod_cast hk
  obtain ⟨hlow, -⟩ := abs_le.mp h.near
  have hm : m = 2 ^ 23 := by
    refine (h.normal.resolve_right (by omega)).antisymm' (Nat.le_of_lt_succ (lt_of_not_ge fun hgt => ?_))
    have hgt' : (8388609 : ℚ) ≤ m := by exact_mod_cast hgt
    have hpow : (2 : ℚ) ^ (1 : Int) ≤ 2 ^ e := zpow_le_zpow_right₀ (by norm_num) he
    rw [zpow_one] at hpow
    have := mul_le_mul_of_nonneg_right hgt' hu.le
    linarith
  refine ⟨hm, he.antisymm' (Int.lt_add_one_iff.mp (lt_of_not_ge fun hgt => ?_))⟩
  have hbelow := h.near_below hm (by omega)
  have hpow : (2 : ℚ) ^ (2 : Int) ≤ 2 ^ e := zpow_le_zpow_right₀ (by norm_num) hgt
  rw [hm] at hbelow
  norm_num at hbelow hpow
  linarith

/-- An integer of at most 24 bits is a number, so it rounds to itself. -/
theorem RoundsTo.eq_of_le (hk : k ≤ 2 ^ 24) : (m : ℚ) * 2 ^ e = k := by
  rcases le_or_gt e 0 with he | he
  · exact h.eq_of_exp_nonpos he
  · obtain ⟨hm, he1⟩ := h.eq_of_exp_pos he hk
    have hbelow := h.near_below hm (by omega)
    rw [hm, he1] at hbelow ⊢
    norm_num at hbelow ⊢
    have hlt : ((2 ^ 24 : Nat) : ℚ) < (k + 1 : Nat) := by
      push_cast
      linarith
    exact_mod_cast (Nat.le_of_lt_succ (Nat.cast_lt.mp hlt)).antisymm hk

/-- A positive integer is far from the subnormal numbers. -/
theorem RoundsTo.least_lt (hk : 0 < k) : -149 < e := by
  refine h.least_le.lt_of_ne' fun he => ?_
  have hk' : (1 : ℚ) ≤ k := by exact_mod_cast hk
  have hm : (m : ℚ) ≤ ((2 ^ 24 : Nat) : ℚ) := Nat.cast_le.mpr h.lt.le
  obtain ⟨-, hhigh⟩ := abs_le.mp h.near
  have hsmall : (2 : ℚ) ^ e ≤ 2 ^ (-30 : Int) := zpow_le_zpow_right₀ (by norm_num) (by omega)
  have := mul_le_mul hm hsmall (by positivity) (by positivity)
  norm_num at hsmall this
  linarith

end

/-- Conversion of an integer other than 0 that is in the range of a 32-bit type. -/
theorem intToF32_of_ne_zero {n : Int} (h0 : n ≠ 0) (hn : n.natAbs ≤ 2 ^ 32) :
    ∃ (m : Nat) (e : Int), RoundsTo n.natAbs m e ∧ e ≤ 104 ∧ intToF32 n = .fin (n < 0) m e := by
  have hx : (n.natAbs : ℚ) / (1 : Nat) < 2 ^ 128 - 2 ^ 103 := by
    rw [Nat.cast_one, div_one]
    calc (n.natAbs : ℚ) ≤ ((2 ^ 32 : Nat) : ℚ) := Nat.cast_le.mpr hn
      _ < 2 ^ 128 - 2 ^ 103 := by norm_num
  have hround := f32Round_of_lt (n < 0) (Int.natAbs_pos.mpr h0) one_pos hx
  rwa [Nat.cast_one, div_one] at hround

theorem f32Rat_natAbs {n : Int} {m : Nat} {e : Int} (h : (m : ℚ) * 2 ^ e = n.natAbs) : f32Rat (n < 0) m e = n := by
  by_cases hneg : n < 0
  · rw [decide_eq_true hneg, f32Rat_true, h, Nat.cast_natAbs, abs_of_neg hneg, Int.cast_neg, neg_neg]
  · rw [decide_eq_false hneg, f32Rat_false, h, Nat.cast_natAbs, abs_of_nonneg (not_lt.mp hneg)]

theorem intToF32_exact {n : Int} (hn : n.natAbs ≤ 2 ^ 24) :
    ∃ (m : Nat) (e : Int), intToF32 n = .fin (n < 0) m e ∧ f32Rat (n < 0) m e = n := by
  by_cases h0 : n = 0
  · subst h0
    exact ⟨0, -149, rfl, f32Rat_natAbs (by norm_num)⟩
  · obtain ⟨m, e, hround, -, heq⟩ := intToF32_of_ne_zero h0 (hn.trans (by norm_num))
    exact ⟨m, e, heq, f32Rat_natAbs (hround.eq_of_le hn)⟩

/-- Settles O32: each operation by the constructors of its operands, and an integer by what it rounds to. -/
theorem arithmeticRoundsTheExactResultOnce : Obligations.ArithmeticRoundsTheExactResultOnce := by
  refine ⟨fun s t m n e f => ⟨_, _, by positivity, f32Mul_fraction m n e f, rfl⟩,
    fun s t m n e f => ⟨f32Add_of_zero s t m n e f, f32Add_of_ne_zero s t m n e f⟩,
    fun s t m n e f => ?_,
    fun s t m n e f hn => ⟨_, _, by positivity, f32Div_fraction m hn e f, if_neg hn⟩,
    fun _ _ _ _ _ => rfl, fun _ _ _ _ => ⟨rfl, rfl, rfl, rfl, rfl, rfl, rfl, rfl⟩,
    fun s t => ⟨rfl, rfl, rfl, f32Sub_inf_inf s t⟩,
    fun a => ⟨rfl, f32Mul_nan_right a, rfl, f32Add_nan_right a, f32Sub_nan_left a, f32Add_nan_right a, rfl,
      f32Div_nan_right a⟩, fun n => intToF32_exact, fun n h0 hn => ?_⟩
  · rw [f32Sub_fin, ← f32Rat_add_not]
    exact ⟨f32Add_of_zero s (!t) m n e f, f32Add_of_ne_zero s (!t) m n e f⟩
  · obtain ⟨m, e, hround, -, heq⟩ := intToF32_of_ne_zero h0 hn
    have he := hround.least_lt (Int.natAbs_pos.mpr h0)
    exact ⟨m, e, heq, hround.normal.resolve_right he.ne', hround.lt, hround.near, hround.even,
      fun hm => hround.near_below hm he⟩

end Sys2Proof
end

section
/-! SUPPORT. The numbers of binary32 (41_slot.md section 1), and why a decoded slot is one of them (section 2). -/

namespace Sys2Proof

open Sys2Proof.Machine

/-! ### The values that have a pattern -/

/-- A value that is no NaN and whose significand and exponent are those of a binary32 number. -/
def Machine.F32.Canonical : F32 → Prop
  | .nan => False
  | .inf _ => True
  | .fin _ m e => -149 ≤ e ∧ e ≤ 104 ∧ m < 2 ^ 24 ∧ (2 ^ 23 ≤ m ∨ e = -149)

theorem f32OfBits_canonical {w : Word} (h : ¬ nanPattern w) : (f32OfBits w).Canonical := by
  have hfr : w.toNat % 2 ^ 23 < 2 ^ 23 := Nat.mod_lt _ (by decide)
  rw [f32OfBits_eq]
  split_ifs with hex hzero hsub
  · trivial
  · exact h ⟨hex, hzero⟩
  · exact ⟨by omega, by omega, by omega, .inr rfl⟩
  · exact ⟨by omega, by omega, by omega, .inl (by omega)⟩

/-- What the pattern of a sign, an exponent field and a fraction stands for. -/
theorem f32OfBits_fields (neg : Bool) {k f : Nat} (hk : k < 256) (hf : f < 2 ^ 23) :
    f32OfBits (BitVec.ofNat 32 (f32SignBits neg + k * 2 ^ 23 + f)) =
      if k = 255 then (if f = 0 then .inf neg else .nan)
      else if k = 0 then .fin neg f (-149) else .fin neg (2 ^ 23 + f) ((k : Int) - 150) := by
  have hbits : f32SignBits neg = 2 ^ 31 * neg.toNat := by cases neg <;> rfl
  have hneg : neg.toNat ≤ 1 := neg.toNat_le
  have hword : (BitVec.ofNat 32 (2 ^ 31 * neg.toNat + k * 2 ^ 23 + f)).toNat =
      2 ^ 31 * neg.toNat + k * 2 ^ 23 + f := by
    rw [BitVec.toNat_ofNat, Nat.mod_eq_of_lt (by omega)]
  have hsign : decide (2 ^ 31 ≤ 2 ^ 31 * neg.toNat + k * 2 ^ 23 + f) = neg := by
    cases neg
    · exact decide_eq_false (by rw [Bool.toNat_false]; omega)
    · exact decide_eq_true (by rw [Bool.toNat_true]; omega)
  rw [f32OfBits_eq, hbits, hword, hsign,
    show (2 ^ 31 * neg.toNat + k * 2 ^ 23 + f) / 2 ^ 23 % 256 = k by omega,
    show (2 ^ 31 * neg.toNat + k * 2 ^ 23 + f) % 2 ^ 23 = f by omega]

/-- Each value has its pattern. -/
theorem f32OfBits_f32ToBits {x : F32} (h : x.Canonical) : f32OfBits (f32ToBits x) = x := by
  cases x with
  | nan => exact h.elim
  | inf neg => exact f32OfBits_fields neg (k := 255) (f := 0) (by decide) (by decide)
  | fin neg m e =>
    obtain ⟨hlow, hhigh, hm, hnormal⟩ := h
    rw [f32ToBits]
    obtain ⟨k, hk⟩ : ∃ k : Nat, e = k - 149 := ⟨(e + 149).toNat, by omega⟩
    rw [show (e + 149).toNat = k by omega]
    rcases lt_or_ge m (2 ^ 23) with hsub | hnorm
    · rw [f32OfBits_fields neg (by omega) hsub, if_neg (by omega), if_pos (by omega), hnormal.resolve_left (by omega)]
    · rw [show f32SignBits neg + k * 2 ^ 23 + m = f32SignBits neg + (k + 1) * 2 ^ 23 + (m - 2 ^ 23) by omega,
        f32OfBits_fields neg (by omega) (by omega), if_neg (by omega), if_neg k.succ_ne_zero,
        Nat.add_sub_cancel' hnorm, hk]
      congr 1
      omega

theorem finitePattern_f32ToBits {x : F32} (h : x.Canonical) : finitePattern (f32ToBits x) ↔ f32Finite x = true := by
  rw [← f32Finite_ofBits, f32OfBits_f32ToBits h]

/-! ### Operations that give no NaN -/

theorem f32Round_canonical (neg : Bool) (n : Nat) {d : Nat} (hd : 0 < d) : (f32Round neg n d).Canonical := by
  rcases n.eq_zero_or_pos with hn | hn
  · rw [hn, f32Round_zero]
    exact ⟨le_rfl, by decide, by decide, .inr rfl⟩
  · obtain ⟨m, e, hround, heq⟩ := f32Round_roundsTo neg hn hd
    rw [heq]
    split_ifs with he
    · trivial
    · exact ⟨hround.least_le, by omega, hround.lt, hround.normal⟩

theorem f32Mul_fin_canonical (s t : Bool) (m n : Nat) (e f : Int) :
    (f32Mul (.fin s m e) (.fin t n f)).Canonical :=
  f32Round_canonical _ _ (by positivity)

theorem f32Add_fin_canonical {x : F32} (h : x.Canonical) (t : Bool) (n : Nat) (f : Int) :
    (f32Add x (.fin t n f)).Canonical := by
  cases x with
  | nan => exact h.elim
  | inf s => trivial
  | fin s m e =>
    rw [f32Add]
    split_ifs
    · exact ⟨le_rfl, by decide, by decide, .inr rfl⟩
    · exact f32Round_canonical _ _ (by positivity)

theorem f32Finite_iff {x : F32} : f32Finite x = true ↔ ∃ neg m e, x = .fin neg m e := by
  cases x <;> simp [f32Finite]

/-! ### The clamp -/

theorem f32Lt_irrefl (x : F32) : f32Lt x x = false := by
  cases x with
  | nan => rfl
  | inf s => exact Bool.and_not_self s
  | fin s m e => exact (f32Lt_fin_eq_false ..).mpr le_rfl

section
variable {x lo hi : F32}

/-- The three results of the clamp. -/
theorem f32Clamp_cases (x lo hi : F32) :
    f32Clamp x lo hi = lo ∨ f32Clamp x lo hi = hi ∨
    (f32Clamp x lo hi = x ∧ f32Lt x lo = false ∧ f32Lt hi x = false) := by
  cases hlo : f32Lt x lo
  · cases hhi : f32Lt hi x
    · exact .inr (.inr ⟨f32Clamp_of_between hlo hhi, rfl, rfl⟩)
    · exact .inr (.inl (f32Clamp_of_upper_lt hlo hhi))
  · exact .inl (f32Clamp_of_lt_lower hlo)

theorem f32Clamp_mem_range (h : f32Lt hi lo = false) :
    f32Lt (f32Clamp x lo hi) lo = false ∧ f32Lt hi (f32Clamp x lo hi) = false := by
  rcases f32Clamp_cases x lo hi with heq | heq | ⟨heq, hlo, hhi⟩ <;> rw [heq]
  · exact ⟨f32Lt_irrefl lo, h⟩
  · exact ⟨h, f32Lt_irrefl hi⟩
  · exact ⟨hlo, hhi⟩

/-- Between finite bounds an infinity is clamped away. -/
theorem f32Clamp_finite (hx : x.Canonical) (hlo : f32Finite lo = true) (hhi : f32Finite hi = true) :
    f32Finite (f32Clamp x lo hi) = true := by
  rcases f32Clamp_cases x lo hi with heq | heq | ⟨heq, hl, hh⟩ <;> rw [heq]
  · exact hlo
  · exact hhi
  · obtain ⟨a, j, p, rfl⟩ := f32Finite_iff.mp hlo
    obtain ⟨b, k, q, rfl⟩ := f32Finite_iff.mp hhi
    cases x with
    | nan => exact hx.elim
    | inf s => cases s <;> contradiction
    | fin s m e => rfl

theorem f32Clamp_canonical (hx : x.Canonical) (hlo : lo.Canonical) (hhi : hi.Canonical) :
    (f32Clamp x lo hi).Canonical := by
  rcases f32Clamp_cases x lo hi with heq | heq | ⟨heq, -⟩ <;> rw [heq] <;> assumption

end

/-! ### The decoded value -/

theorem not_nanPattern_of_finite {w : Word} (h : finitePattern w) : ¬ nanPattern w := fun hnan => h hnan.1

theorem Machine.RawType.natAbs_value_le (t : RawType) {r : Nat} (hr : r < 2 ^ t.bits) :
    (t.value r).natAbs ≤ 2 ^ 32 := by
  have hbits : (2 : Nat) ^ t.bits ≤ 2 ^ 32 := by cases t <;> decide
  have hcast : ((2 : Nat) ^ t.bits : Nat) = (2 : Int) ^ t.bits := Nat.cast_pow 2 t.bits
  rw [RawType.value_eq, ← hcast]
  split <;> omega

theorem intToF32_eq_fin {n : Int} (hn : n.natAbs ≤ 2 ^ 32) : ∃ neg m e, intToF32 n = .fin neg m e := by
  by_cases h0 : n = 0
  · exact ⟨false, 0, -149, by rw [h0]; rfl⟩
  · obtain ⟨m, e, -, -, heq⟩ := intToF32_of_ne_zero h0 hn
    exact ⟨_, m, e, heq⟩

/-- Scaled and offset, a raw value is a number or an overflow to an infinity. -/
theorem scaled_canonical {n : Int} {scale offset : Word} (hn : n.natAbs ≤ 2 ^ 32) (hscale : finitePattern scale)
    (hoffset : finitePattern offset) :
    (f32Add (f32Mul (intToF32 n) (f32OfBits scale)) (f32OfBits offset)).Canonical := by
  obtain ⟨_, _, _, hint⟩ := intToF32_eq_fin hn
  obtain ⟨_, _, _, hs⟩ := f32Finite_iff.mp ((f32Finite_ofBits scale).mpr hscale)
  obtain ⟨_, _, _, ho⟩ := f32Finite_iff.mp ((f32Finite_ofBits offset).mpr hoffset)
  rw [hint, hs, ho]
  exact f32Add_fin_canonical (f32Mul_fin_canonical ..) ..

/-- Settles O29: the clamp leaves the bounds or a value between them, and its pattern stands for it. -/
theorem slotDecResultIsFiniteAndInRange : Obligations.SlotDecResultIsFiniteAndInRange := by
  intro t raw d s hd hr
  obtain ⟨hscale, hoffset, hlower, hupper, -, horder⟩ := id hd
  set r := raw.toNat % 2 ^ t.bits
  have hlo := f32OfBits_canonical (not_nanPattern_of_finite hlower)
  have hhi := f32OfBits_canonical (not_nanPattern_of_finite hupper)
  have hx := scaled_canonical (t.natAbs_value_le (Nat.mod_lt raw.toNat (by positivity))) hscale hoffset
  have hy : (slotValue (t.value r) d).Canonical := f32Clamp_canonical hx hlo hhi
  refine ⟨f32ToBits (slotValue (t.value r) d), (exec_decInstr t raw d s).trans (slotDec_of_ne_sentinel hd hr),
    (finitePattern_f32ToBits hy).mpr ?_, ?_⟩
  · exact f32Clamp_finite hx ((f32Finite_ofBits _).mpr hlower) ((f32Finite_ofBits _).mpr hupper)
  · rw [f32OfBits_f32ToBits hy]
    exact f32Clamp_mem_range horder

end Sys2Proof
end
